-- ==== Sys2Proof/Word.lean ====
section
/-! DEFINITION. The bytes and words of the crane link and the spreader buses. -/

namespace Sys2Proof

/-- One byte of a link frame, a bus frame or an image (R133, R162). -/
abbrev Byte := BitVec 8

/-- A two-byte number of a record. -/
abbrev Half := BitVec 16

/-- A four-byte number of a record; the millisecond time is one (spec/00_scope.md 5.3). -/
abbrev Word := BitVec 32

end Sys2Proof
end

