-- ==== Sys2Proof/Syntax.lean ====
section
/-! DEFINITION. The commands of the MJ4: one constructor for each row of spec/opcode_table.json. -/

namespace Sys2Proof

/-- One of the two headblocks, and the spreader and bus of the same name (spec/00_scope.md 5.1). -/
inductive Headblock | a | b
  deriving DecidableEq, Repr

/-- The index of a node address: address 1 to 7 is index 0 to 6 (spec/00_scope.md 5.2). -/
abbrev NodeIx := Fin 7

/-- A member of the member table: A1 to A8 and B1 to B8; `k` is 0 for member 1 (R1). -/
structure Member where
  hb : Headblock
  k : Fin 8
  deriving DecidableEq, Repr

/-- A coil pair (R61): `i` 0 to 7 the member pairs, 8 TELESCOPE, 9 TWIN_GEAR of that headblock. -/
structure PairId where
  hb : Headblock
  i : Fin 10
  deriving DecidableEq, Repr

/-- One coil of a pair (Table 3-2): first is LOCK, EXTEND or DOWN; second is UNLOCK, RETRACT or UP. -/
inductive Side | first | second
  deriving DecidableEq, Repr

/-- The eight cab inputs (Table 9-2). -/
inductive CabInput | lockPb | unlockPb | confirmPb | bypassKey | gp1 | gp2 | gp3 | gp4
  deriving DecidableEq, Repr

/-- A command of the block. The rows that are requests of the crane link carry their TAG and the bytes of
their body as Table 10-6 lays it out (log 1); the events on a spreader bus carry what was received. -/
inductive Instr
  /-- POWER_ON: supply is applied (R173). -/
  | powerOn
  /-- LINK_FRAME_RECEIVED: the last CHECK byte of a frame arrives (R163). -/
  | linkFrameReceived (lastCheck : Byte)
  /-- LINK_BYTE_GAP: more than 5 ms pass between two bytes of one frame (R163). -/
  | linkByteGap
  /-- UNKNOWN_KIND: a request with a KIND that is none of Table 10-6's request kinds arrives (R165). -/
  | unknownKind (tag kind : Byte) (body : List Byte)
  | identifyPart (tag : Byte)
  | getStatus (tag : Byte)
  | setTiming (tag period share : Byte) (powerUp powerDown : Half) (confirm debounce : Byte)
  | restart (tag kind : Byte)
  | setTrolleyMode (tag mode : Byte)
  | readMembers (tag : Byte)
  | readGroup (tag : Byte)
  | setAuthority (tag authority : Byte)
  | order (tag kind : Byte)
  | abandon (tag : Byte)
  | clearFaults (tag : Byte)
  | resume (tag : Byte)
  | bypassEnter (tag : Byte)
  | bypassExit (tag : Byte)
  | setSpreader (tag headblock length mode : Byte)
  | loadProfile (tag headblock presence : Byte) (serial : Word) (lockDead unlockDead bodyDead turn : Half)
      (settle setTimeout : Byte)
  | arm (tag headblock : Byte)
  | disarm (tag headblock : Byte)
  | release (tag headblock : Byte)
  | attach (tag headblock : Byte)
  | readDescriptor (tag headblock : Byte)
  | readNodes (tag headblock : Byte)
  | readNodeDiag (tag headblock address first count : Byte)
  | watchSet (tag signal edge : Byte)
  | watchClear (tag signal : Byte)
  | watchList (tag : Byte)
  /-- REPLY_SENT: the last byte of the reply on the line is sent (R165). -/
  | replySent
  /-- NOTICE_SENT: the last byte of the head notice's frame is sent (R167). -/
  | noticeSent
  /-- TRIP_CHAIN_RAW_CHANGE: the TRIP_CHAIN terminal goes closed or open (R76, R77). -/
  | tripChainRawChange (closed : Bool)
  /-- TRIP_EDGE: the raw chain has been open for 5 ms (R76). -/
  | tripEdge
  /-- TRIP_CHAIN_REARM: the raw chain has been closed for 200 ms (R77). -/
  | tripChainRearm
  /-- PLUG_RAW_CHANGE: the PLUG terminal of a headblock changes (R112). -/
  | plugRawChange (hb : Headblock) (present : Bool)
  | plugInsertion (hb : Headblock)
  | plugRemoval (hb : Headblock)
  | powerUpDelayEnd (hb : Headblock)
  | powerDownDelayEnd (hb : Headblock)
  /-- MASTER_FRAME_END: the last byte of the master frame in flight is sent (R135). -/
  | masterFrameEnd (hb : Headblock)
  /-- HOLD_OFF: a hold-off marker is received; `overlap` when overlapping transmitters were seen (R135). -/
  | holdOff (hb : Headblock) (overlap : Bool)
  /-- EXCH_REPLY: a reply ends; its bytes from kind to check as received (R133, R135). -/
  | exchReply (hb : Headblock) (bytes : List Byte) (overlap : Bool)
  | idReply (hb : Headblock) (bytes : List Byte) (overlap : Bool)
  | diagReply (hb : Headblock) (bytes : List Byte) (overlap : Bool)
  | replyWindowEnd (hb : Headblock) (overlap : Bool)
  | replyStall (hb : Headblock) (overlap : Bool)
  | nodeDue (hb : Headblock) (node : NodeIx)
  | probeDue (hb : Headblock)
  | lastOnExpiry (pair : PairId) (coil : Side)
  | lostNodeOffTime (hb : Headblock) (node : NodeIx)
  | memberDeadTimeEnd (member : Member)
  | confirmDeadline
  | turnDeadline
  | stepDeadTimeEnd (hb : Headblock)
  | setDeadline (hb : Headblock)
  | cabRawChange (input : CabInput) (on : Bool)
  | cabDebounceEnd (input : CabInput)
  | flashClock
  /-- LINK_BYTE_RECEIVED: any other byte of the link arrives (R163). -/
  | linkByteReceived (byte : Byte)
  deriving DecidableEq, Repr

/-- Table 10-6: the kind code is one of the 26 request kinds. -/
def isRequestKind (kind : Byte) : Bool :=
  [0x01, 0x02, 0x03, 0x04, 0x08, 0x09, 0x0A, 0x10, 0x11, 0x12, 0x13, 0x14, 0x15, 0x16, 0x18, 0x20, 0x21, 0x22,
    0x23, 0x24, 0x25, 0x28, 0x29, 0x30, 0x31, 0x32].contains kind

/-- The TAG of a command that is a request (R162). -/
def Instr.tag? : Instr → Option Byte
  | .unknownKind tag _ _ | .identifyPart tag | .getStatus tag | .setTiming tag _ _ _ _ _ _ | .restart tag _
  | .setTrolleyMode tag _ | .readMembers tag | .readGroup tag | .setAuthority tag _ | .order tag _ | .abandon tag
  | .clearFaults tag | .resume tag | .bypassEnter tag | .bypassExit tag | .setSpreader tag _ _ _
  | .loadProfile tag _ _ _ _ _ _ _ _ _ | .arm tag _ | .disarm tag _ | .release tag _ | .attach tag _
  | .readDescriptor tag _ | .readNodes tag _ | .readNodeDiag tag _ _ _ _ | .watchSet tag _ _ | .watchClear tag _
  | .watchList tag => some tag
  | .powerOn | .linkFrameReceived _ | .linkByteGap | .replySent | .noticeSent | .tripChainRawChange _ | .tripEdge
  | .tripChainRearm | .plugRawChange _ _ | .plugInsertion _ | .plugRemoval _ | .powerUpDelayEnd _
  | .powerDownDelayEnd _ | .masterFrameEnd _ | .holdOff _ _ | .exchReply _ _ _ | .idReply _ _ _ | .diagReply _ _ _
  | .replyWindowEnd _ _ | .replyStall _ _ | .nodeDue _ _ | .probeDue _ | .lastOnExpiry _ _ | .lostNodeOffTime _ _
  | .memberDeadTimeEnd _ | .confirmDeadline | .turnDeadline | .stepDeadTimeEnd _ | .setDeadline _
  | .cabRawChange _ _ | .cabDebounceEnd _ | .flashClock | .linkByteReceived _ => none

end Sys2Proof
end

