-- ==== Sys2Proof/Decode.lean ====
section
/-! DEFINITION. The rows of spec/opcode_table.json give no bits (their "fields" are empty), so no word spells a
command. The frames of the crane link and of the spreader buses are read in Machine/Operands.lean and
Machine/Requests.lean. -/

namespace Sys2Proof

/-- The command a word spells by the table's bits: none, since no row of the table gives bits (log 35). -/
def decodeTableWord (_nbits _w : Nat) : Option Instr := none

end Sys2Proof
end

