-- ==== Sys2Proof/Config.lean ====
section
/-! DEFINITION. What one MJ4 fixes: the values the manual leaves open, the capacities and the fixed times. -/

namespace Sys2Proof.Config

/-- The silicon revision (R168, R173: "the revision of the part"). The manual gives no value: a FREE
VALUE, so nothing is known of it (log 9). -/
opaque siliconRevision : Byte

/-- R110: at the departure of the test spreader from ARMED with a running order, "either may be taken first": whether
the leave of bypass is taken before the composition, one choice for each such departure. A FREE VALUE (log 14). -/
opaque leaveFirst : Nat → Bool

/-- R168: the vendor code. -/
def vendorCode : Half := 0x0D41
/-- R168: the part code of the MJ4. -/
def partCode : Half := 0x0304
/-- R168: the link format revision of this manual. -/
def linkFormatRevision : Byte := 1

/-- R164. -/
def receiveCapacity : Nat := 4
/-- R175. -/
def noticeCapacity : Nat := 24
/-- R177. -/
def watchCapacity : Nat := 32

/-- R76: the opening filter of the trip chain, in ms. -/
def openingTime : Nat := 5
/-- R77: the re-arm time of the trip chain, in ms. -/
def rearmTime : Nat := 200
/-- R112: the plug debounce, in ms. -/
def plugDebounce : Nat := 100
/-- R159: one half of the flash clock, in ms. -/
def flashHalf : Nat := 500
/-- R66: the age at which a last-on time becomes "never", in ms. -/
def lastOnLife : Nat := 500
/-- R163: the longest gap between two bytes of one frame, in ms. -/
def byteGap : Nat := 5
/-- R131: a node's watchdog, in exchange periods. -/
def watchdogPeriods : Nat := 4

end Sys2Proof.Config
end

