-- ==== Sys2Proof/Machine/State.lean ====
section
/-! DEFINITION. The state of the MJ4 as plain data: one field of `State` for each piece of state of Table 3-1 of
spec/00_scope.md, its reset value, and the reasons a step could stop. Times are counts of the millisecond time
(`State.time`, unwrapped; log 3). -/

namespace Sys2Proof.Machine

/-- One value for each headblock. -/
structure PerHead (α : Type) where
  a : α
  b : α
  deriving DecidableEq, Repr

/-- The value of one headblock. -/
def PerHead.get {α : Type} (p : PerHead α) : Headblock → α
  | .a => p.a
  | .b => p.b

/-- The pair of values a function gives. -/
def PerHead.ofFn {α : Type} (f : Headblock → α) : PerHead α := ⟨f .a, f .b⟩

/-- One headblock's value replaced. -/
def PerHead.set {α : Type} (p : PerHead α) (hb : Headblock) (v : α) : PerHead α :=
  .ofFn fun h => if h = hb then v else p.get h

/-! ## Lift Group Unit (spec/01) -/

/-- R1. -/
inductive Landed | on | off | unknown
  deriving DecidableEq, Repr
/-- R1, Table 1-3. -/
inductive Position | locked | unlocked | between | conflict | unknown
  deriving DecidableEq, Repr
/-- The variable fields of a member record that the Lift Group Unit derives (R1). -/
structure MemberRec where
  landed : Landed
  position : Position
  deriving DecidableEq, Repr
/-- R7. -/
inductive TrolleyMode | soloA | soloB | tandem
  deriving DecidableEq, Repr
/-- Table 1-7. -/
inductive GroupState | notReady | fault | allLocked | allUnlocked | mixed
  deriving DecidableEq, Repr
/-- R16. -/
inductive Summary | all | some | none
  deriving DecidableEq, Repr
/-- The group record: R10, R14, R16. -/
structure Group where
  members : List Member
  state : GroupState
  summary : Summary
  deriving DecidableEq, Repr
/-- The two permit outputs (R18, R19). -/
structure Permits where
  up : Bool
  down : Bool
  deriving DecidableEq, Repr
/-- One of the two permits. -/
inductive Permit | up | down
  deriving DecidableEq, Repr
/-- Tables 1-8, 1-9. -/
inductive PermitCause | trip | bypass | order | setting | group
  deriving DecidableEq, Repr

/-! ## Order Sequencer (spec/02) -/

/-- R25. -/
inductive OrderKind | lock | unlock
  deriving DecidableEq, Repr
/-- R25. -/
inductive Origin | link | cab
  deriving DecidableEq, Repr
/-- R27. -/
inductive Authority | cabOnly | linkOnly | linkWithConfirm
  deriving DecidableEq, Repr
/-- Table 2-3: the stages as notices and replies name them. -/
inductive Stage | idle | proposed | checked | turning | settling | suspended | faultHeld
  deriving DecidableEq, Repr
/-- R25: progress; a member in SETTLING carries its settle count. -/
inductive Progress | offWait | deadWait | driving | settling (count : Nat) | settled | failed
  deriving DecidableEq, Repr
/-- Table 2-8. -/
inductive EndReason
  | done | confirmLate | cabCancel | trip | notReady | spreaderLost | groupFault | notLanded | turnTimeout
  | landedLost | sensorFault | nodeLost | coilFault | linkAbandon | holdAbandoned | bypassLeft
  deriving DecidableEq, Repr
/-- R59. -/
inductive OrderResult | done | ended | held
  deriving DecidableEq, Repr
/-- The fields of an order present in every stage other than IDLE (Table 2-3). -/
structure OrderHead where
  kind : OrderKind
  origin : Origin
  turningBegun : Bool
  deriving DecidableEq, Repr
/-- One entry of the member and progress lists; `oppositeSeen` records that a good reply has shown the opposite
coil on since the member left DEAD_WAIT (R43; log 24). -/
structure OrderMember where
  member : Member
  progress : Progress
  oppositeSeen : Bool
  deriving DecidableEq, Repr
/-- The two stages in which an order turns. -/
inductive ActiveStage | turning | settling
  deriving DecidableEq, Repr
/-- The order record, with exactly the fields Table 2-3 gives each stage. CHECKED is entered and left within one
action (spec/02 section 2.5), so it never stands between two steps (log 27). -/
inductive OrderRec
  | idle
  | proposed (head : OrderHead) (confirmDeadline : Nat)
  | active (stage : ActiveStage) (head : OrderHead) (members : List OrderMember) (turnDeadline : Nat)
  | suspended (head : OrderHead)
  | faultHeld (head : OrderHead) (members : List OrderMember) (reason : EndReason)
  deriving DecidableEq, Repr
/-- The three pushbuttons (R32). -/
inductive Button | lock | unlock | confirm
  deriving DecidableEq, Repr
/-- R32: the reasons of CAB_REFUSED. -/
inductive CabReason | authority | hold | held | busy | notReady | wrongButton | noOrder
  deriving DecidableEq, Repr

/-! ## Coil Drive Unit (spec/03) -/

/-- The command of a pair: at most one coil on (R61). -/
inductive Command | bothOff | on (coil : Side)
  deriving DecidableEq, Repr
/-- The echo or reference state of a pair (R61, R68). -/
inductive Echo | bothOff | on (coil : Side) | bothOn | unknown
  deriving DecidableEq, Repr
/-- The Coil Drive Unit's record of one pair (R61). `mismatch` is the mismatch count, 0 or 1. -/
structure Pair where
  command : Command
  mismatch : Bool
  fault : Bool
  offMark : Bool
  lastOnFirst : Option Word
  lastOnSecond : Option Word
  deriving DecidableEq, Repr

/-! ## Spreader Bus Controller (spec/08) -/

/-- R137. -/
inductive NodeKind | corner | body | aux
  deriving DecidableEq, Repr
/-- The state of a node that has a record (R137); an ABSENT record is `none` in the table. -/
inductive NodeLink | online | lost
  deriving DecidableEq, Repr
/-- The end of the last EXCHANGE frame whose image carried a coil of a pair on, and the longest exchange period
carried from that frame onwards (R72; log 22). -/
structure OnFrame where
  endTime : Nat
  longest : Nat
  deriving DecidableEq, Repr
/-- A record of the node table that is not ABSENT (R137), with the Coil Drive Unit's reference image (R68) and the
frame times that R72 asks for. -/
structure NodeRec where
  kind : NodeKind
  link : NodeLink
  misses : Fin 4
  lastGood : Nat
  lastBegun : Option Nat
  input : Option Byte
  echo : Option Byte
  output : Byte
  restarted : Bool
  supplyLow : Bool
  reference : Option Byte
  goodFrame : Option OnFrame
  onFrameLow : Option OnFrame
  onFrameHigh : Option OnFrame
  signalsKnown : Bool
  deriving DecidableEq, Repr
/-- What a master frame carries (Table 8-2). -/
inductive FrameKind
  | exchange (image period : Byte)
  | identify
  | diagRead (block : Byte)
  deriving DecidableEq, Repr
/-- How far the frame in flight has come (R135). -/
inductive FramePhase | sending | window | extended
  deriving DecidableEq, Repr
/-- The frame in flight (R132); `discard` when its outcome is to be discarded (R137, R149), `orphan` when the
transfer that a DIAG_READ belonged to was dropped by a WARM restart (R149). -/
structure Flight where
  node : NodeIx
  kind : FrameKind
  phase : FramePhase
  endTime : Nat
  overlap : Bool
  secondHoldOff : Bool
  discard : Bool
  orphan : Bool
  deriving DecidableEq, Repr
/-- A diagnostic transfer (R146); `rowTwo` is the time a diagnostic frame last began at row 2 (R143). -/
structure Transfer where
  node : NodeIx
  first : Nat
  count : Nat
  next : Nat
  attempt : Nat
  received : Nat
  data : List Byte
  rowTwo : Option Nat
  deriving DecidableEq, Repr
/-- One bus controller (R132, R137, R141, R146). -/
structure Bus where
  nodes : Vector (Option NodeRec) 7
  urgent : List NodeIx
  flight : Option Flight
  lastProbe : Option Nat
  transfer : Option Transfer
  deriving DecidableEq, Repr
/-- R148. -/
inductive TransferEnd | complete | short | failed | aborted
  deriving DecidableEq, Repr

/-! ## Spreader Attachment Manager (spec/07) -/

/-- Table 7-1: prior. -/
inductive Prior | identified | armed
  deriving DecidableEq, Repr
/-- R116, Table 7-3: the cause of ATTACH_FAULT. -/
inductive AttachCause | noBody | cornerMissing | censusMismatch | clash
  deriving DecidableEq, Repr
/-- Table 7-1: next. -/
inductive Next | empty | off | powering
  deriving DecidableEq, Repr
/-- Table 7-2. -/
inductive AttachState
  | empty | powering | census | identified | armed | linkDown (prior : Prior) | reidentify (prior : Prior)
  | attachFault (cause : AttachCause) | releasing (next : Next) | off
  deriving DecidableEq, Repr
/-- Table 7-4. -/
structure Descriptor where
  serial : Word
  model : Half
  revision : Byte
  twin : Bool
  len20 : Bool
  len40 : Bool
  len45 : Bool
  nodes : List (NodeIx × NodeKind)
  deriving DecidableEq, Repr
/-- Table 7-5; times in ms, the set timeout in s. -/
structure Profile where
  expected : Option Word
  lockDead : Nat
  unlockDead : Nat
  bodyDead : Nat
  turnTimeout : Nat
  settleLimit : Nat
  setTimeout : Nat
  deriving DecidableEq, Repr
/-- One answer of a census: the kind, the time of the ID_REPLY, and the 16 descriptor bytes of a BODY (R115). -/
structure Answer where
  kind : NodeKind
  time : Nat
  descriptor : List Byte
  deriving DecidableEq, Repr
/-- The census record (R115). -/
structure Census where
  answers : Vector (Option Answer) 7
  node : NodeIx
  attempt : Nat
  deriving DecidableEq, Repr
/-- One attachment manager (R112 to R117). -/
structure Attach where
  state : AttachState
  descriptor : Option Descriptor
  profile : Option Profile
  census : Option Census
  delayEnd : Option Nat
  plugRaw : Bool
  plug : Bool
  plugTimer : Option Nat
  deriving DecidableEq, Repr

/-! ## Spreader Setting Unit (spec/05) -/

/-- R92: a recorded length, in feet. -/
inductive Length | l20 | l40 | l45
  deriving DecidableEq, Repr
/-- R92: a recorded lift mode. -/
inductive LiftMode | single | twin
  deriving DecidableEq, Repr
/-- A recorded setting; `none` of it is UNSET, both fields together (R92). -/
structure Setting where
  length : Length
  mode : LiftMode
  deriving DecidableEq, Repr
/-- R97: the direction of TELESCOPING. -/
inductive Direction | extend | retract
  deriving DecidableEq, Repr
/-- R97: the step; TELESCOPING carries its direction. -/
inductive SetStep | gearUp | telescoping (direction : Direction) | gearDown
  deriving DecidableEq, Repr
/-- R97. -/
inductive Phase | offWait | deadWait | driving | stopping
  deriving DecidableEq, Repr
/-- A set operation (R97). -/
structure SetOp where
  target : Setting
  step : SetStep
  phase : Phase
  deadline : Nat
  deriving DecidableEq, Repr
/-- The setting record, watch count and set operation of one spreader. -/
structure SettingUnit where
  setting : Option Setting
  watch : Nat
  op : Option SetOp
  deriving DecidableEq, Repr
/-- The steps as SET_END names them (R103). -/
inductive StepName | gearUp | telescoping | gearDown | none
  deriving DecidableEq, Repr
/-- Table 5-6, and NONE for a completed operation (R103). -/
inductive SetReason | timeout | trip | landed | nodeLost | coilFault | attachLost | positionUnknown | restart | none
  deriving DecidableEq, Repr

/-! ## Trip Hold Unit (spec/04) and Bypass Control (spec/06) -/

/-- R78. -/
inductive HoldCause | trip | start
  deriving DecidableEq, Repr
/-- Table 4-2; the hold cause is present in HOLDING and HELD (R78). -/
inductive TripState | clear | holding (cause : HoldCause) | held (cause : HoldCause)
  deriving DecidableEq, Repr
/-- R80. -/
structure HoldRec where
  kind : OrderKind
  origin : Origin
  members : List Member
  turningBegun : Bool
  bypassBegun : Bool
  deriving DecidableEq, Repr
/-- The Trip Hold Unit (R76 to R78). -/
structure TripUnit where
  state : TripState
  pending : Bool
  hold : Option HoldRec
  chainRawClosed : Bool
  chainClosed : Bool
  chainTimer : Option Nat
  deriving DecidableEq, Repr
/-- Table 6-3. -/
inductive LeaveCause | request | key | trip | attach | restart
  deriving DecidableEq, Repr

/-! ## Cab Panel Interface (spec/09) -/

/-- One cab input: raw level, debounced level (`none` is UNKNOWN), running interval (R151, R152). -/
structure CabIn where
  raw : Bool
  level : Option Bool
  timer : Option Nat
  deriving DecidableEq, Repr
/-- R158. -/
inductive Lamp | steady | flashing | off
  deriving DecidableEq, Repr
/-- The ten lamp states (Table 9-3). -/
structure Lamps where
  landed : PerHead Lamp
  locked : PerHead Lamp
  unlocked : PerHead Lamp
  order : Lamp
  fault : Lamp
  hold : Lamp
  bypass : Lamp
  deriving DecidableEq, Repr
/-- The flash clock (R159). -/
structure Flash where
  lit : Bool
  halfEnd : Nat
  deriving DecidableEq, Repr

/-! ## Crane Link Controller (spec/10) -/

/-- R144. -/
inductive Share | idleOnly | shared
  deriving DecidableEq, Repr
/-- The six settings of SET_TIMING (Table 10-5); the confirm window in s, the rest in ms. -/
structure Timing where
  period : Nat
  share : Share
  powerUp : Nat
  powerDown : Nat
  confirm : Nat
  debounce : Nat
  deriving DecidableEq, Repr
/-- R166: the statuses, in the order of Table 10-6. -/
inductive Status
  | ok | accepted | retrip | unknownKind | badLength | range | state | busy | authority | held | hold | notArmed
  | modeInvalid | landed | locked | full | tripOpen | key | profileMismatch
  deriving DecidableEq, Repr
/-- A request as received (R162). -/
structure Request where
  tag : Byte
  kind : Byte
  body : List Byte
  deriving DecidableEq, Repr
/-- The reply in hand (R165, R166). -/
structure Reply where
  tag : Byte
  kind : Byte
  status : Status
  values : List Byte
  deriving DecidableEq, Repr
/-- The receiver (R163): hunting, expecting LENGTH, or receiving the bytes after LENGTH. -/
inductive Receiver | hunting | length | receiving (length : Nat) (got : List Byte)
  deriving DecidableEq, Repr
/-- The transmit line (R167). -/
inductive TxLine | idle | reply | notice
  deriving DecidableEq, Repr
/-- The Crane Link Controller. -/
structure Link where
  rx : Receiver
  lastByte : Nat
  queue : List Request
  reply : Option Reply
  tx : TxLine
  deriving DecidableEq, Repr
/-- Section 5.5 of spec/00_scope.md. -/
inductive StartKind | powerOn | cold | warm
  deriving DecidableEq, Repr
/-- R163, R164: the reasons of FRAME_DISCARDED. -/
inductive DiscardReason | length | check | tag | overrun
  deriving DecidableEq, Repr

/-! ## Notice Unit (spec/11) -/

/-- The body of a notice after its header, by kind (Table 11-2). STARTED's silicon and link format revisions are
constants and are put in by its coding. -/
inductive NoticeBody
  | started (kind : StartKind) (time : Word)
  | orderStage (stage : Stage) (head : OrderHead)
  | orderEnd (head : OrderHead) (result : OrderResult) (reason : EndReason) (members : List (Member × Progress))
  | memberFault (pair : PairId) (reference echo : Echo) (command : Command)
  | groupState (mode : TrolleyMode) (group : Group)
  | permit (permit : Permit) (level : Bool) (cause : Option PermitCause)
  | holdState (state : TripState) (pending chainClosed : Bool) (hold : Option HoldRec)
  | attachState (hb : Headblock) (state : AttachState) (left : Option AttachState) (serial : Option Word)
  | spreaderChanged (hb : Headblock) (oldSerial : Word) (oldModel : Half) (newSerial : Word) (newModel : Half)
  | nodeState (hb : Headblock) (node : NodeIx) (kind : NodeKind) (link : NodeLink) (misses : Fin 4)
      (clash restarted supplyLow : Bool)
  | setEnd (hb : Headblock) (reason : SetReason) (target : Setting) (step : StepName) (setting : Option Setting)
  | diagResult (hb : Headblock) (transfer : Transfer) (status : TransferEnd)
  | watchHit (signal : Nat) (value afterGap : Bool)
  | cabRefused (button : Button) (reason : CabReason) (stage : Stage)
  | bypassState (on : Bool) (hb : Headblock) (cause : Option LeaveCause)
  | frameDiscarded (reason : DiscardReason) (tag kind : Option Byte)
  deriving DecidableEq, Repr
/-- A notice in the queue: its header (Table 10-7) and body. -/
structure Notice where
  time : Word
  overrun : Bool
  body : NoticeBody
  deriving DecidableEq, Repr
/-- The notice queue and the overrun marker (R175, R176). -/
structure NoticeUnit where
  queue : List Notice
  overrun : Bool
  deriving DecidableEq, Repr
/-- R177: the edge of a watch entry. -/
inductive Edge | rise | fall | both
  deriving DecidableEq, Repr
/-- A watch entry (R177); the signal is its code of Table 11-3. -/
structure Watch where
  signal : Nat
  edge : Edge
  deriving DecidableEq, Repr
/-- A signal record (R178). -/
structure SignalRec where
  value : Option Bool
  gap : Bool
  deriving DecidableEq, Repr

/-! ## The whole -/

/-- Everything the manual gives the MJ4, and the queue of commands that wait for it. -/
structure State where
  /-- The commands waiting, first in first out (the model's own). -/
  pending : List Instr
  /-- The millisecond time, unwrapped since it was last 0 (log 3). -/
  time : Nat
  timing : Timing
  link : Link
  notices : NoticeUnit
  watches : List Watch
  signals : Vector SignalRec 103
  cab : Vector CabIn 8
  lamps : Lamps
  flash : Flash
  bus : PerHead Bus
  attach : PerHead Attach
  members : PerHead (Vector MemberRec 8)
  mode : TrolleyMode
  group : Group
  permits : Permits
  order : OrderRec
  /-- The kind of the order that the last CONFIRM press took out of PROPOSED, and the time of that press (R155; log 43). -/
  confirmed : Option (OrderKind × Nat)
  authority : Authority
  pairs : PerHead (Vector Pair 10)
  awaitingOff : List PairId
  setting : PerHead SettingUnit
  trip : TripUnit
  bypass : Option Headblock
  /-- How many of R110's choices have been made: the model's own count, which `Config.leaveFirst` is read at (log 42). -/
  choices : Nat
  deriving DecidableEq, Repr

/-- No command stops the MJ4 with a fault: the manual names no such condition (INVENTORY.md, Faults). Safe. -/
inductive Fault
  deriving DecidableEq, Repr

/-- Why a command has no meaning. -/
inductive Refusal
  /-- Raised by `exec` for a command without a meaning yet: by none now. Safe. -/
  | notModelled (mnemonic : String)
  deriving DecidableEq, Repr

/-! ## Values after power-on -/

/-- R144, R170: the defaults of the six settings. -/
def Timing.default : Timing :=
  { period := 40, share := .idleOnly, powerUp := 800, powerDown := 500, confirm := 5, debounce := 30 }

/-- R6. -/
def MemberRec.reset : MemberRec := ⟨.unknown, .unknown⟩

/-- Table 3-7. -/
def Pair.reset : Pair := ⟨.bothOff, false, false, false, none, none⟩

/-- R149. -/
def Bus.reset : Bus := ⟨Vector.ofFn fun _ => none, [], none, none, none⟩

/-- Table 7-7, with the raw plug input at the level given and its debounce started from it (R112). -/
def Attach.reset (plugRaw : Bool) : Attach :=
  { state := .empty, descriptor := none, profile := none, census := none, delayEnd := none, plugRaw := plugRaw
    plug := false, plugTimer := if plugRaw then some Config.plugDebounce else none }

/-- Table 5-7. -/
def SettingUnit.reset : SettingUnit := ⟨none, 0, none⟩

/-- Table 4-5, with the raw chain at the level given, examined afresh (R77, log 19). -/
def TripUnit.reset (chainRawClosed : Bool) : TripUnit :=
  { state := .held .start, pending := false, hold := none, chainRawClosed := chainRawClosed, chainClosed := false
    chainTimer := if chainRawClosed then some Config.rearmTime else none }

/-- R153: UNKNOWN, an interval running from the raw level at that moment. -/
def CabIn.reset (raw : Bool) : CabIn := ⟨raw, none, some Timing.default.debounce⟩

/-- R180: node and cab signals none; plugs, chain and permits off. -/
def SignalRec.reset (signal : Nat) : SignalRec :=
  ⟨if signal = 8 ∨ signal = 9 ∨ signal = 10 ∨ 101 ≤ signal then some false else none, false⟩

/-- Table 1-10. -/
def Group.reset : Group := ⟨[], .notReady, .none⟩

/-- R160: the lamps after power-on: HOLD steady, every other dark. -/
def Lamps.reset : Lamps :=
  { landed := ⟨.off, .off⟩, locked := ⟨.off, .off⟩, unlocked := ⟨.off, .off⟩, order := .off, fault := .off
    hold := .steady, bypass := .off }

/-- The start notices of R173 (and R172 step 5) after power-on, at time 0. -/
def startNotices : List NoticeBody :=
  [.started .powerOn 0, .holdState (.held .start) false false none, .attachState .a .empty none none,
    .attachState .b .empty none none, .groupState .soloA Group.reset]

/-- The machine right after POWER_ON, every input pin off, absent or open (log 7): the power-on columns of the
tables of every chapter, the start notices queued, STARTED on the transmit line (R167). -/
def State.reset : State :=
  { pending := []
    time := 0
    timing := .default
    link := { rx := .hunting, lastByte := 0, queue := [], reply := none, tx := .notice }
    notices := { queue := startNotices.map fun body => ⟨0, false, body⟩, overrun := false }
    watches := []
    signals := Vector.ofFn fun i => .reset i.val
    cab := Vector.ofFn fun _ => .reset false
    lamps := .reset
    flash := { lit := true, halfEnd := Config.flashHalf }
    bus := .ofFn fun _ => .reset
    attach := .ofFn fun _ => .reset false
    members := .ofFn fun _ => Vector.ofFn fun _ => .reset
    mode := .soloA
    group := .reset
    permits := ⟨false, false⟩
    order := .idle
    confirmed := none
    authority := .linkWithConfirm
    pairs := .ofFn fun _ => Vector.ofFn fun _ => .reset
    awaitingOff := []
    setting := .ofFn fun _ => .reset
    trip := .reset false
    bypass := none
    choices := 0 }

end Sys2Proof.Machine
end

