-- ==== Sys2Proof/Machine/Codes.lean ====
section
/-! DEFINITION. How values stand on the crane link (R166, Tables 10-3, 10-6, 10-7) and on the spreader buses (R133),
and the two checks. A named value's code is its place in the list where it is first specified (R166); the places and
layouts that R166 leaves to a choice are in log 10 and log 11. -/

namespace Sys2Proof.Machine

/-! ## Checks -/

/-- One bit of the CRC-8 of R133: polynomial x^8+x^2+x+1, most significant bit first. -/
def crc8Bit (c : Byte) : Byte := if c.msb then (c <<< 1) ^^^ 0x07 else c <<< 1
/-- One byte of the CRC-8. -/
def crc8Byte (c b : Byte) : Byte := (List.range 8).foldl (fun c _ => crc8Bit c) (c ^^^ b)
/-- R133: the check of a bus frame, initial value 0. -/
def crc8 (bytes : List Byte) : Byte := bytes.foldl crc8Byte 0

/-- One bit of the CRC-16 of R162: polynomial x^16+x^12+x^5+1, most significant bit first. -/
def crc16Bit (c : Half) : Half := if c.msb then (c <<< 1) ^^^ 0x1021 else c <<< 1
/-- One byte of the CRC-16. -/
def crc16Byte (c : Half) (b : Byte) : Half :=
  (List.range 8).foldl (fun c _ => crc16Bit c) (c ^^^ (b.setWidth 16 <<< 8))
/-- R162: the check of a link frame, initial value FFFF, no final inversion. -/
def crc16 (bytes : List Byte) : Half := bytes.foldl crc16Byte 0xFFFF

/-! ## Numbers (R133, R166: most significant byte first) -/

/-- A number of one byte. -/
def byte (n : Nat) : Byte := BitVec.ofNat 8 n
/-- A flag: 1 when set, on or yes, 0 otherwise (log 10). -/
def flag (b : Bool) : Byte := if b then 1 else 0
/-- Two bytes. -/
def be16 (h : Half) : List Byte := [h.extractLsb' 8 8, h.extractLsb' 0 8]
/-- Four bytes. -/
def be32 (w : Word) : List Byte :=
  [w.extractLsb' 24 8, w.extractLsb' 16 8, w.extractLsb' 8 8, w.extractLsb' 0 8]
/-- The two-byte number read from its bytes. -/
def ofBe16 (hi lo : Byte) : Half := hi ++ lo
/-- The four-byte number read from its bytes. -/
def ofBe32 (b3 b2 b1 b0 : Byte) : Word := (b3 ++ b2) ++ (b1 ++ b0)
/-- R166: an optional value of `width` bytes: a presence byte, then the value or zeros. -/
def optional (width : Nat) : Option (List Byte) → List Byte
  | none => List.replicate (width + 1) 0
  | some v => 1 :: v
/-- R166: a list: a count byte and the entries. -/
def counted (entries : List (List Byte)) : List Byte := byte entries.length :: entries.flatten
/-- A millisecond time as a number of the part: the 32-bit count (spec/00_scope.md 5.3). -/
def timeWord (t : Nat) : Word := BitVec.ofNat 32 t

/-! ## Named values (R166) -/

def headblockCode : Headblock → Byte
  | .a => 0
  | .b => 1
/-- 0 to 15 for A1 to B8 (R166). -/
def memberCode (m : Member) : Byte := byte ((match m.hb with | .a => 0 | .b => 8) + m.k.val)
/-- The place of a pair in R61's list: members 0 to 15, then A TELESCOPE, A TWIN_GEAR, B TELESCOPE, B TWIN_GEAR. -/
def pairCode (p : PairId) : Byte :=
  if p.i.val < 8 then byte ((match p.hb with | .a => 0 | .b => 8) + p.i.val)
  else byte ((match p.hb with | .a => 16 | .b => 18) + (p.i.val - 8))
def Landed.code : Landed → Byte
  | .on => 0
  | .off => 1
  | .unknown => 2
def Position.code : Position → Byte
  | .locked => 0
  | .unlocked => 1
  | .between => 2
  | .conflict => 3
  | .unknown => 4
def TrolleyMode.code : TrolleyMode → Byte
  | .soloA => 0
  | .soloB => 1
  | .tandem => 2
def GroupState.code : GroupState → Byte
  | .notReady => 0
  | .fault => 1
  | .allLocked => 2
  | .allUnlocked => 3
  | .mixed => 4
def Summary.code : Summary → Byte
  | .all => 0
  | .some => 1
  | .none => 2
def Permit.code : Permit → Byte
  | .up => 0
  | .down => 1
def PermitCause.code : PermitCause → Byte
  | .trip => 0
  | .bypass => 1
  | .order => 2
  | .setting => 3
  | .group => 4
def OrderKind.code : OrderKind → Byte
  | .lock => 0
  | .unlock => 1
def Origin.code : Origin → Byte
  | .link => 0
  | .cab => 1
def Authority.code : Authority → Byte
  | .cabOnly => 0
  | .linkOnly => 1
  | .linkWithConfirm => 2
def Stage.code : Stage → Byte
  | .idle => 0
  | .proposed => 1
  | .checked => 2
  | .turning => 3
  | .settling => 4
  | .suspended => 5
  | .faultHeld => 6
/-- Table 10-3, byte 8. -/
def Progress.code : Progress → Byte
  | .offWait => 0
  | .deadWait => 1
  | .driving => 2
  | .settling _ => 3
  | .settled => 4
  | .failed => 5
/-- The settle count of a member in SETTLING (Table 10-3, byte 9). -/
def Progress.count? : Progress → Option Nat
  | .settling n => some n
  | .offWait | .deadWait | .driving | .settled | .failed => none
/-- Table 2-8, each reason at its first place (R166). -/
def EndReason.code : EndReason → Byte
  | .done => 0
  | .confirmLate => 1
  | .cabCancel => 2
  | .trip => 3
  | .notReady => 4
  | .spreaderLost => 5
  | .groupFault => 6
  | .notLanded => 7
  | .turnTimeout => 8
  | .landedLost => 9
  | .sensorFault => 10
  | .nodeLost => 11
  | .coilFault => 12
  | .linkAbandon => 13
  | .holdAbandoned => 14
  | .bypassLeft => 15
def OrderResult.code : OrderResult → Byte
  | .done => 0
  | .ended => 1
  | .held => 2
def Command.code : Command → Byte
  | .bothOff => 0
  | .on .first => 1
  | .on .second => 2
def Echo.code : Echo → Byte
  | .bothOff => 0
  | .on .first => 1
  | .on .second => 2
  | .bothOn => 3
  | .unknown => 4
def Button.code : Button → Byte
  | .lock => 0
  | .unlock => 1
  | .confirm => 2
def CabReason.code : CabReason → Byte
  | .authority => 0
  | .hold => 1
  | .held => 2
  | .busy => 3
  | .notReady => 4
  | .wrongButton => 5
  | .noOrder => 6
/-- The host's code of a node kind (spec/00_scope.md 5.4: the bus has its own). -/
def NodeKind.code : NodeKind → Byte
  | .corner => 0
  | .body => 1
  | .aux => 2
/-- The state of a node: ABSENT 0, ONLINE 1, LOST 2 (R137). -/
def NodeLink.code : NodeLink → Byte
  | .online => 1
  | .lost => 2
def TransferEnd.code : TransferEnd → Byte
  | .complete => 0
  | .short => 1
  | .failed => 2
  | .aborted => 3
def Prior.code : Prior → Byte
  | .identified => 0
  | .armed => 1
def AttachCause.code : AttachCause → Byte
  | .noBody => 0
  | .cornerMissing => 1
  | .censusMismatch => 2
  | .clash => 3
def Next.code : Next → Byte
  | .empty => 0
  | .off => 1
  | .powering => 2
/-- Table 7-2's place of a state. -/
def AttachState.code : AttachState → Byte
  | .empty => 0
  | .powering => 1
  | .census => 2
  | .identified => 3
  | .armed => 4
  | .linkDown _ => 5
  | .reidentify _ => 6
  | .attachFault _ => 7
  | .releasing _ => 8
  | .off => 9
/-- The prior, cause or next that a state carries. -/
def AttachState.carried : AttachState → Option Byte
  | .linkDown p | .reidentify p => some p.code
  | .attachFault c => some c.code
  | .releasing n => some n.code
  | .empty | .powering | .census | .identified | .armed | .off => none
/-- R166: its own code followed by the carried value as an optional value. -/
def AttachState.bytes (a : AttachState) : List Byte := a.code :: optional 1 (a.carried.map ([·]))
/-- R166: a length is its feet. -/
def Length.code : Length → Byte
  | .l20 => 20
  | .l40 => 40
  | .l45 => 45
def LiftMode.code : LiftMode → Byte
  | .single => 0
  | .twin => 1
/-- A setting: length in feet or 0, lift mode SINGLE, TWIN or UNSET (R92, R166). -/
def settingBytes : Option Setting → List Byte
  | none => [0, 2]
  | some s => [s.length.code, s.mode.code]
def StepName.code : StepName → Byte
  | .gearUp => 0
  | .telescoping => 1
  | .gearDown => 2
  | .none => 3
def SetStep.name : SetStep → StepName
  | .gearUp => .gearUp
  | .telescoping _ => .telescoping
  | .gearDown => .gearDown
def Phase.code : Phase → Byte
  | .offWait => 0
  | .deadWait => 1
  | .driving => 2
  | .stopping => 3
def SetReason.code : SetReason → Byte
  | .timeout => 0
  | .trip => 1
  | .landed => 2
  | .nodeLost => 3
  | .coilFault => 4
  | .attachLost => 5
  | .positionUnknown => 6
  | .restart => 7
  | .none => 8
def HoldCause.code : HoldCause → Byte
  | .trip => 0
  | .start => 1
def TripState.code : TripState → Byte
  | .clear => 0
  | .holding _ => 1
  | .held _ => 2
/-- The hold cause, none in CLEAR (R78). -/
def TripState.cause? : TripState → Option HoldCause
  | .clear => none
  | .holding c | .held c => some c
def LeaveCause.code : LeaveCause → Byte
  | .request => 0
  | .key => 1
  | .trip => 2
  | .attach => 3
  | .restart => 4
def Share.code : Share → Byte
  | .idleOnly => 0
  | .shared => 1
def StartKind.code : StartKind → Byte
  | .powerOn => 0
  | .cold => 1
  | .warm => 2
def DiscardReason.code : DiscardReason → Byte
  | .length => 0
  | .check => 1
  | .tag => 2
  | .overrun => 3
def Edge.code : Edge → Byte
  | .rise => 0
  | .fall => 1
  | .both => 2
/-- Table 10-6: OK 00, ACCEPTED 01, RETRIP 02, the refusals from 10. -/
def Status.code : Status → Byte
  | .ok => 0x00
  | .accepted => 0x01
  | .retrip => 0x02
  | .unknownKind => 0x10
  | .badLength => 0x11
  | .range => 0x12
  | .state => 0x13
  | .busy => 0x14
  | .authority => 0x15
  | .held => 0x16
  | .hold => 0x17
  | .notArmed => 0x18
  | .modeInvalid => 0x19
  | .landed => 0x1A
  | .locked => 0x1B
  | .full => 0x1C
  | .tripOpen => 0x1D
  | .key => 0x1E
  | .profileMismatch => 0x1F

/-! ## Notices -/

/-- The kind code of a notice (Table 10-6). -/
def NoticeBody.kind : NoticeBody → Byte
  | .started _ _ => 0x40
  | .orderStage _ _ => 0x41
  | .orderEnd _ _ _ _ => 0x42
  | .memberFault _ _ _ _ => 0x43
  | .groupState _ _ => 0x44
  | .permit _ _ _ => 0x45
  | .holdState _ _ _ _ => 0x46
  | .attachState _ _ _ _ => 0x47
  | .spreaderChanged _ _ _ _ _ => 0x48
  | .nodeState _ _ _ _ _ _ _ _ => 0x49
  | .setEnd _ _ _ _ _ => 0x4A
  | .diagResult _ _ _ => 0x4B
  | .watchHit _ _ _ => 0x4C
  | .cabRefused _ _ _ => 0x4D
  | .bypassState _ _ _ => 0x4E
  | .frameDiscarded _ _ _ => 0x4F

/-- A list of member identities. -/
def memberList (l : List Member) : List Byte := counted (l.map fun m => [memberCode m])

/-- The hold record as HOLD_STATE gives it (R90): an optional value; its bytes are 0 when it is empty. R90
and R166 give an absent record no width, its member list having none: five zero bytes, the list's count among them, is
the model's choice (log 11). -/
def holdBytes : Option HoldRec → List Byte
  | none => optional 5 none
  | some h => 1 :: h.kind.code :: h.origin.code :: flag h.turningBegun :: flag h.bypassBegun :: memberList h.members

/-- The values after the header (R174), in the order the owner's rule gives them. -/
def NoticeBody.values : NoticeBody → List Byte
  | .started kind time => kind.code :: Config.siliconRevision :: Config.linkFormatRevision :: be32 time
  | .orderStage stage head => [stage.code, head.kind.code, head.origin.code, flag head.turningBegun]
  | .orderEnd head result reason members =>
    [head.kind.code, head.origin.code, result.code, reason.code] ++
      counted (members.map fun (m, p) => [memberCode m, p.code] ++ optional 1 (p.count?.map fun n => [byte n]))
  | .memberFault pair reference echo command => [pairCode pair, reference.code, echo.code, command.code]
  | .groupState mode group => [mode.code, group.state.code, group.summary.code] ++ memberList group.members
  | .permit which level cause => [which.code, flag level] ++ optional 1 (cause.map fun c => [c.code])
  | .holdState state pending chainClosed hold =>
    [state.code] ++ optional 1 (state.cause?.map fun c => [c.code]) ++ [flag pending, flag chainClosed] ++
      holdBytes hold
  | .attachState hb state left serial =>
    [headblockCode hb] ++ state.bytes ++ optional 3 (left.map AttachState.bytes) ++ optional 4 (serial.map be32)
  | .spreaderChanged hb oldSerial oldModel newSerial newModel =>
    [headblockCode hb] ++ be32 oldSerial ++ be16 oldModel ++ be32 newSerial ++ be16 newModel
  | .nodeState hb node kind link misses clash restarted supplyLow =>
    [headblockCode hb, byte (node.val + 1), kind.code, link.code, byte misses.val, flag clash, flag restarted,
      flag supplyLow]
  | .setEnd hb reason target step setting =>
    [headblockCode hb, flag (reason != .none), reason.code, target.length.code, target.mode.code, step.code] ++
      settingBytes setting
  | .diagResult hb t status =>
    [headblockCode hb, byte (t.node.val + 1), byte t.first, byte t.count, status.code, byte t.received,
      byte t.data.length] ++ t.data
  | .watchHit signal value afterGap => [byte signal, flag value, flag afterGap]
  | .cabRefused button reason stage => [button.code, reason.code, stage.code]
  | .bypassState on hb cause =>
    [flag on, headblockCode hb] ++ optional 1 (cause.map fun c => [c.code])
  | .frameDiscarded reason tag kind =>
    [reason.code] ++ optional 1 (tag.map ([·])) ++ optional 1 (kind.map ([·]))

/-- The body of a notice: the header of Table 10-7, then the values (R174). -/
def Notice.bytes (n : Notice) : List Byte := be32 n.time ++ [flag n.overrun] ++ n.body.values

/-! ## Frames -/

/-- A frame of the crane link (R162, Table 10-2). -/
def linkFrame (tag kind : Byte) (body : List Byte) : List Byte :=
  let counted := byte (body.length + 2) :: tag :: kind :: body
  0xC3 :: counted ++ be16 (crc16 counted)

/-- The frame of a notice: TAG 0 (R162). -/
def Notice.frame (n : Notice) : List Byte := linkFrame 0 n.body.kind n.bytes

/-- The frame of a reply: the request's TAG and KIND, the status, the values (R162, R166). -/
def Reply.frame (r : Reply) : List Byte := linkFrame r.tag r.kind (r.status.code :: r.values)

/-- The frame on the transmit line (R167). -/
def State.txFrame (s : State) : Option (List Byte) :=
  match s.link.tx with
  | .idle => none
  | .reply => s.link.reply.map Reply.frame
  | .notice => s.notices.queue.head?.map Notice.frame

/-- A bus frame: the bytes before the check and the check (R133). -/
def busFrame (bytes : List Byte) : List Byte := bytes ++ [crc8 bytes]

/-- The address byte of a node. -/
def nodeAddress (n : NodeIx) : Byte := byte (n.val + 1)

/-- The bytes of the master frame in flight (Table 8-2). -/
def Flight.bytes (f : Flight) : List Byte :=
  match f.kind with
  | .exchange image period => busFrame [0x11, nodeAddress f.node, image, period]
  | .identify => busFrame [0x12, nodeAddress f.node]
  | .diagRead block => busFrame [0x13, nodeAddress f.node, block]

end Sys2Proof.Machine
end

