-- ==== Sys2Proof/Machine/Ops.lean ====
section
/-! DEFINITION. The named reads and writes of the state that every block shares: the time, the notice queue, the
member table, the coil pairs, the node tables. Each write changes the fields it names and no other. -/

namespace Sys2Proof

/-! ## Names of members, pairs and nodes (R1, R61, Table 3-3) -/

/-- Both headblocks, A before B. -/
def headblocks : List Headblock := [.a, .b]

/-- The members of one spreader, in the member table's order. -/
def membersOf (hb : Headblock) : List Member := (List.finRange 8).map fun k => ⟨hb, k⟩

/-- The sixteen members in the member table's order (spec/00_scope.md 5.1). -/
def allMembers : List Member := headblocks.flatMap membersOf

/-- The coil pair of a member. -/
def Member.pair (m : Member) : PairId := ⟨m.hb, m.k.castLE (by decide)⟩

/-- The corner node that serves a member: address k for members k and k+4 (Table 1-2). -/
def Member.node (m : Member) : NodeIx := ⟨m.k.val % 4, by omega⟩

/-- An outer member: members 1 to 4 (Table 1-2). -/
def Member.outer (m : Member) : Bool := m.k.val < 4

/-- The TELESCOPE pair of a spreader. -/
def telescope (hb : Headblock) : PairId := ⟨hb, 8⟩

/-- The TWIN_GEAR pair of a spreader. -/
def twinGear (hb : Headblock) : PairId := ⟨hb, 9⟩

/-- The two body pairs of a spreader. -/
def bodyPairs (hb : Headblock) : List PairId := [telescope hb, twinGear hb]

/-- The ten pairs of a spreader. -/
def pairsOf (hb : Headblock) : List PairId := (List.finRange 10).map fun i => ⟨hb, i⟩

/-- The twenty pairs, in R61's order: the members, then the body pairs. -/
def allPairs : List PairId := allMembers.map Member.pair ++ headblocks.flatMap bodyPairs

/-- A body pair. -/
def PairId.isBody (p : PairId) : Bool := 8 ≤ p.i.val

/-- The node that serves a pair (R61). -/
def PairId.node (p : PairId) : NodeIx := if p.i.val < 8 then ⟨p.i.val % 4, by omega⟩ else 4

/-- The pair stands in bits 0 and 1 of its node's output image, else in bits 2 and 3 (Table 8-3). -/
def PairId.low (p : PairId) : Bool := p.i.val < 4 || p.i.val == 8

/-- The pairs that a node serves, low bits first (Table 3-3). -/
def nodePairs (hb : Headblock) (n : NodeIx) : List PairId :=
  if h : n.val < 4 then [⟨hb, ⟨n.val, by omega⟩⟩, ⟨hb, ⟨n.val + 4, by omega⟩⟩]
  else if n.val = 4 then bodyPairs hb else []

/-- The members that a corner node serves, the outer one first. -/
def nodeMembers (hb : Headblock) (n : NodeIx) : List Member :=
  if h : n.val < 4 then [⟨hb, ⟨n.val, by omega⟩⟩, ⟨hb, ⟨n.val + 4, by omega⟩⟩] else []

/-- The index of the body node, address 5 (spec/00_scope.md 5.2). -/
def bodyNode : NodeIx := 4

/-- The other coil of a pair. -/
def Side.opposite : Side → Side
  | .first => .second
  | .second => .first

/-- The cab inputs in Table 9-2's order. -/
def CabInput.ix : CabInput → Fin 8
  | .lockPb => 0
  | .unlockPb => 1
  | .confirmPb => 2
  | .bypassKey => 3
  | .gp1 => 4
  | .gp2 => 5
  | .gp3 => 6
  | .gp4 => 7

end Sys2Proof

namespace Sys2Proof.Machine

/-! ## The time -/

/-- The free-running millisecond time: a 32-bit count that wraps (spec/00_scope.md 5.3). -/
def State.msTime (s : State) : Word := timeWord s.time

/-- A timed event is taken: the time is then at least the moment it is due (log 5). -/
def advanceTo (t : Nat) (s : State) : State := { s with time := max s.time t }

/-! ## Notices (R174 to R176) -/

/-- A posted notice is accepted with its timestamp and overrun flag, or is discarded and sets the marker. -/
def NoticeUnit.post (now : Word) (n : NoticeUnit) (body : NoticeBody) : NoticeUnit :=
  if n.queue.length < Config.noticeCapacity then
    { queue := n.queue ++ [{ time := now, overrun := n.overrun, body := body }], overrun := false }
  else { n with overrun := true }

/-- Several notices posted in the order given. -/
def postAll (bodies : List NoticeBody) (s : State) : State :=
  { s with notices := bodies.foldl (NoticeUnit.post s.msTime) s.notices }

/-- One notice posted. -/
def post (body : NoticeBody) (s : State) : State := postAll [body] s

/-! ## Members -/

/-- A member's record. -/
def State.member (s : State) (m : Member) : MemberRec := (s.members.get m.hb).get m.k

/-- Every member record rewritten by its name and old value. -/
def updateMembers (f : Member → MemberRec → MemberRec) (s : State) : State :=
  { s with members := .ofFn fun hb => Vector.ofFn fun k => f ⟨hb, k⟩ (s.member ⟨hb, k⟩) }

/-- A member is in group exactly when the group's list names it (R11). -/
def State.inGroup (s : State) (m : Member) : Bool := s.group.members.contains m

/-! ## Coil pairs -/

/-- A pair's record. -/
def State.pair (s : State) (p : PairId) : Pair := (s.pairs.get p.hb).get p.i

/-- Every pair record rewritten by its name and old value. -/
def updatePairs (f : PairId → Pair → Pair) (s : State) : State :=
  { s with pairs := .ofFn fun hb => Vector.ofFn fun i => f ⟨hb, i⟩ (s.pair ⟨hb, i⟩) }

/-- The last-on time of one coil (R66). -/
def Pair.lastOn (p : Pair) : Side → Option Word
  | .first => p.lastOnFirst
  | .second => p.lastOnSecond

/-- The last-on time of one coil set. -/
def Pair.setLastOn (p : Pair) (c : Side) (t : Option Word) : Pair :=
  match c with
  | .first => { p with lastOnFirst := t }
  | .second => { p with lastOnSecond := t }

/-- Off claims of R63: the command of each pair named becomes BOTH_OFF. -/
def claimOff (named : PairId → Bool) (s : State) : State :=
  updatePairs (fun p r => if named p then { r with command := .bothOff } else r) s

/-- The holding operation lets pairs go: both coils claimed off and the off marks cleared (R65). -/
def letGo (named : PairId → Bool) (s : State) : State :=
  updatePairs (fun p r => if named p then { r with command := .bothOff, offMark := false } else r) s

/-- Latches cleared, and the mismatch count of each pair named (R71, log 40). -/
def clearLatches (named : PairId → Bool) (s : State) : State :=
  updatePairs (fun p r => if named p then { r with fault := false, mismatch := false } else r) s

/-! ## Images (R62, R134) -/

/-- The state of a pair in an image byte of its node (Table 8-3). -/
def imageEcho (p : PairId) (image : Byte) : Echo :=
  let at0 := if p.low then 0 else 2
  match image.getLsbD at0, image.getLsbD (at0 + 1) with
  | false, false => .bothOff
  | true, false => .on .first
  | false, true => .on .second
  | true, true => .bothOn

/-- A coil of the pair is on. -/
def Echo.anyOn : Echo → Bool
  | .on _ | .bothOn => true
  | .bothOff | .unknown => false

/-- The named coil is on. -/
def Echo.shows (e : Echo) (c : Side) : Bool := e = .on c || e = .bothOn

/-- The echo agrees with a command, or with a reference that carries that command (R69, R71). -/
def Command.echo : Command → Echo
  | .bothOff => .bothOff
  | .on c => .on c

/-- The two bits of a command. -/
def Command.bits : Command → Byte
  | .bothOff => 0
  | .on .first => 1
  | .on .second => 2

/-- R62: the output image of a node, built from the commands of the pairs it serves. -/
def State.imageOf (s : State) (hb : Headblock) (n : NodeIx) : Byte :=
  match nodePairs hb n with
  | [low, high] => (s.pair low).command.bits ||| ((s.pair high).command.bits <<< 2)
  | _ => 0

/-! ## Nodes -/

/-- A record of a node table; `none` is ABSENT. -/
def Bus.node (b : Bus) (n : NodeIx) : Option NodeRec := b.nodes.get n

/-- Every node record rewritten by its address and old value. -/
def Bus.updateNodes (f : NodeIx → Option NodeRec → Option NodeRec) (b : Bus) : Bus :=
  { b with nodes := Vector.ofFn fun n => f n (b.node n) }

/-- One node's record rewritten when it has one. -/
def Bus.updateNode (n : NodeIx) (f : NodeRec → NodeRec) (b : Bus) : Bus :=
  b.updateNodes fun m r => if m = n then r.map f else r

/-- One bus rewritten. -/
def updateBus (hb : Headblock) (f : Bus → Bus) (s : State) : State :=
  { s with bus := s.bus.set hb (f (s.bus.get hb)) }

/-- A record of the node table of a headblock's bus. -/
def State.node (s : State) (hb : Headblock) (n : NodeIx) : Option NodeRec := (s.bus.get hb).node n

/-- R68: the echo of a pair, UNKNOWN while its node is not ONLINE or holds no echo image. -/
def State.echo (s : State) (p : PairId) : Echo :=
  match s.node p.hb p.node with
  | some r => if r.link = .online then (r.echo.map (imageEcho p)).getD .unknown else .unknown
  | none => .unknown

/-- R68: the reference state of a pair, none while its node has no reference image. -/
def State.reference (s : State) (p : PairId) : Option Echo :=
  (s.node p.hb p.node).bind fun r => r.reference.map (imageEcho p)

/-- The input image of an ONLINE node that holds one (R3, R93, R96). -/
def State.onlineInput (s : State) (hb : Headblock) (n : NodeIx) : Option Byte :=
  match s.node hb n with
  | some r => if r.link = .online then r.input else none
  | none => none

/-! ## Attachment and setting -/

/-- One attachment manager rewritten. -/
def updateAttach (hb : Headblock) (f : Attach → Attach) (s : State) : State :=
  { s with attach := s.attach.set hb (f (s.attach.get hb)) }

/-- One setting unit rewritten. -/
def updateSetting (hb : Headblock) (f : SettingUnit → SettingUnit) (s : State) : State :=
  { s with setting := s.setting.set hb (f (s.setting.get hb)) }

/-- The attachment state of a headblock. -/
def State.attachState (s : State) (hb : Headblock) : AttachState := (s.attach.get hb).state

/-- R113, Table 7-2: the supply output is on in exactly these states. -/
def AttachState.supplyOn : AttachState → Bool
  | .powering | .census | .identified | .armed | .linkDown _ | .reidentify _ | .attachFault _ => true
  | .empty | .releasing _ | .off => false

/-- The states in which exchanges and diagnostic frames are sent (Table 7-2). -/
def AttachState.inService : AttachState → Bool
  | .identified | .armed => true
  | .empty | .powering | .census | .linkDown _ | .reidentify _ | .attachFault _ | .releasing _ | .off => false

/-- A set operation runs on the spreader. -/
def State.setOpOn (s : State) (hb : Headblock) : Bool := (s.setting.get hb).op.isSome

/-- A set operation runs on either spreader (R18). -/
def State.setOpRuns (s : State) : Bool := s.setOpOn .a || s.setOpOn .b

/-- The descriptor held says twin capable (R117). -/
def State.twinCapable (s : State) (hb : Headblock) : Bool :=
  ((s.attach.get hb).descriptor.map Descriptor.twin).getD false

/-- Table 5-1: the served members of a spreader. -/
def State.served (s : State) (m : Member) : Bool := m.outer || s.twinCapable m.hb

/-! ## Trip unit, order record, trolley mode -/

/-- R78: force-off stands from the entry to HOLDING until the RESUME that returns the unit to CLEAR. -/
def State.forceOff (s : State) : Bool := s.trip.state != .clear

/-- The stage of the order record (Table 2-3). -/
def OrderRec.stage : OrderRec → Stage
  | .idle => .idle
  | .proposed _ _ => .proposed
  | .active .turning _ _ _ => .turning
  | .active .settling _ _ _ => .settling
  | .suspended _ => .suspended
  | .faultHeld _ _ _ => .faultHeld

/-- The stage name of an active order. -/
def ActiveStage.stage : ActiveStage → Stage
  | .turning => .turning
  | .settling => .settling

/-- The members of an order in TURNING or SETTLING. -/
def OrderRec.activeMembers : OrderRec → List OrderMember
  | .active _ _ members _ => members
  | .idle | .proposed _ _ | .suspended _ | .faultHeld _ _ _ => []

/-- The order record holds an order in TURNING or SETTLING. -/
def OrderRec.runs : OrderRec → Bool
  | .active _ _ _ _ => true
  | .idle | .proposed _ _ | .suspended _ | .faultHeld _ _ _ => false

/-- The order record is in FAULT_HELD. -/
def OrderRec.isFaultHeld : OrderRec → Bool
  | .faultHeld _ _ _ => true
  | .idle | .proposed _ _ | .active _ _ _ _ | .suspended _ => false

/-- Table 1-4. -/
def TrolleyMode.names : TrolleyMode → Headblock → Bool
  | .soloA, .a | .soloB, .b | .tandem, _ => true
  | .soloA, .b | .soloB, .a => false

/-- HOLD_STATE as the trip unit stands (R90). -/
def State.holdStateNotice (s : State) : NoticeBody :=
  .holdState s.trip.state s.trip.pending s.trip.chainClosed s.trip.hold

/-- A cab input. -/
def State.cabIn (s : State) (i : CabInput) : CabIn := s.cab.get i.ix

/-- One cab input rewritten. -/
def updateCab (i : CabInput) (f : CabIn → CabIn) (s : State) : State :=
  { s with cab := Vector.ofFn fun j => if j = i.ix then f (s.cab.get j) else s.cab.get j }

end Sys2Proof.Machine
end

