-- ==== Sys2Proof/Machine/Operands.lean ====
section
/-! DEFINITION. What the bytes of a request body, of a node frame and of a descriptor say (R133 to R135, R166): every
value a request can carry, with the range its owner's RANGE check gives it, and the judgement of a reply. -/

namespace Sys2Proof.Machine

/-! ## Values of request bodies (R166) -/

/-- Headblock A 0, B 1. -/
def headblockOf? (b : Byte) : Option Headblock :=
  if b = 0 then some .a else if b = 1 then some .b else none

/-- R8: SOLO_A 0, SOLO_B 1, TANDEM 2. -/
def modeOf? (b : Byte) : Option TrolleyMode :=
  if b = 0 then some .soloA else if b = 1 then some .soloB else if b = 2 then some .tandem else none

/-- R28: CAB_ONLY 0, LINK_ONLY 1, LINK_WITH_CONFIRM 2. -/
def authorityOf? (b : Byte) : Option Authority :=
  if b = 0 then some .cabOnly else if b = 1 then some .linkOnly else if b = 2 then some .linkWithConfirm else none

/-- R29: LOCK 0, UNLOCK 1. -/
def orderKindOf? (b : Byte) : Option OrderKind :=
  if b = 0 then some .lock else if b = 1 then some .unlock else none

/-- R171: COLD 0, WARM 1. -/
def restartKindOf? (b : Byte) : Option StartKind :=
  if b = 0 then some .cold else if b = 1 then some .warm else none

/-- R95: 20, 40 or 45; a length is its feet (R166). -/
def lengthOf? (b : Byte) : Option Length :=
  if b = 20 then some .l20 else if b = 40 then some .l40 else if b = 45 then some .l45 else none

/-- R95: SINGLE 0, TWIN 1. -/
def liftModeOf? (b : Byte) : Option LiftMode :=
  if b = 0 then some .single else if b = 1 then some .twin else none

/-- R177: RISE 0, FALL 1, BOTH 2. -/
def edgeOf? (b : Byte) : Option Edge :=
  if b = 0 then some .rise else if b = 1 then some .fall else if b = 2 then some .both else none

/-- R95: the headblock and target setting a SET_SPREADER carries. -/
def targetOf? (headblock length mode : Byte) : Option (Headblock × Setting) := do
  let hb ← headblockOf? headblock
  let l ← lengthOf? length
  let m ← liftModeOf? mode
  return (hb, ⟨l, m⟩)

/-- A number in its range and on its step, counted from the range's lower end. -/
def inRange (n low high step : Nat) : Bool := low ≤ n && n ≤ high && (n - low) % step == 0

/-- Table 10-5: the six settings, none when any lies outside its range or off its step. -/
def timingOf? (period share : Byte) (powerUp powerDown : Half) (confirm debounce : Byte) : Option Timing :=
  if inRange period.toNat 20 200 5 && decide (share.toNat ≤ 1) && inRange powerUp.toNat 100 5000 10 &&
      inRange powerDown.toNat 100 5000 10 && inRange confirm.toNat 1 30 1 && inRange debounce.toNat 10 200 1 then
    some { period := period.toNat, share := if share = 0 then .idleOnly else .shared, powerUp := powerUp.toNat
           powerDown := powerDown.toNat, confirm := confirm.toNat, debounce := debounce.toNat }
  else none

/-- R166: an optional value of a request: none when its presence byte or its zero bytes are wrong. -/
def optionalOf? (presence : Byte) (value : Word) : Option (Option Word) :=
  if presence = 0 then (if value = 0 then some none else none)
  else if presence = 1 then some (some value) else none

/-- Table 7-5: the profile a LOAD_PROFILE carries, none when any field lies outside its range or step. -/
def profileOf? (presence : Byte) (serial : Word) (lockDead unlockDead bodyDead turn : Half) (settle setTimeout : Byte) :
    Option Profile :=
  match optionalOf? presence serial with
  | none => none
  | some expected =>
    if inRange lockDead.toNat 0 500 10 && inRange unlockDead.toNat 0 500 10 && inRange bodyDead.toNat 0 500 10 &&
        inRange turn.toNat 200 10000 1 && inRange settle.toNat 1 20 1 && inRange setTimeout.toNat 2 90 1 then
      some { expected := expected, lockDead := lockDead.toNat, unlockDead := unlockDead.toNat
             bodyDead := bodyDead.toNat, turnTimeout := turn.toNat, settleLimit := settle.toNat
             setTimeout := setTimeout.toNat }
    else none

/-! ## Descriptors (Table 8-4) -/

/-- The bus's code of a node kind: 1 CORNER, 2 BODY, 3 AUX (Table 8-2). -/
def busKindOf? (n : Nat) : Option NodeKind :=
  if n = 1 then some .corner else if n = 2 then some .body else if n = 3 then some .aux else none

/-- One node entry: bits 0 to 2 the address, bits 4 and 5 the kind; none when either is 0 (R134). -/
def nodeEntry? (b : Byte) : Option (NodeIx × NodeKind) :=
  let address := (b.extractLsb' 0 3).toNat
  match busKindOf? (b.extractLsb' 4 2).toNat with
  | none => none
  | some kind => if h : 1 ≤ address ∧ address ≤ 7 then some (⟨address - 1, by omega⟩, kind) else none

/-- The entries of a node list, all of them valid. -/
def nodeEntries? : List Byte → Option (List (NodeIx × NodeKind))
  | [] => some []
  | b :: bs =>
    match nodeEntry? b, nodeEntries? bs with
    | some e, some es => some (e :: es)
    | _, _ => none

/-- R116, R134: the descriptor that 16 bytes hold, none when it is invalid. -/
def descriptorOf? (bytes : List Byte) : Option Descriptor :=
  match bytes with
  | s3 :: s2 :: s1 :: s0 :: m1 :: m0 :: revision :: features :: count :: entries =>
    let n := count.toNat
    match nodeEntries? (entries.take n) with
    | none => none
    | some nodes =>
      if entries.length = 7 && 5 ≤ n && n ≤ 7 && decide (nodes.map (·.1)).Nodup && (entries.drop n).all (· == 0) &&
          (features.getLsbD 1 || features.getLsbD 2 || features.getLsbD 3) then
        some { serial := ofBe32 s3 s2 s1 s0, model := ofBe16 m1 m0, revision := revision
               twin := features.getLsbD 0, len20 := features.getLsbD 1, len40 := features.getLsbD 2
               len45 := features.getLsbD 3, nodes := nodes }
      else none
  | _ => none

/-- The supported lengths hold a length (R117). -/
def Descriptor.supports (d : Descriptor) : Length → Bool
  | .l20 => d.len20
  | .l40 => d.len40
  | .l45 => d.len45

/-! ## Node frames and outcomes (R133, R135, Table 8-5) -/

/-- What a GOOD reply carries. -/
inductive NodeReply
  | exchange (input echo status : Byte)
  | identify (kind : NodeKind) (descriptor : List Byte)
  | diag (data : List Byte)
  deriving DecidableEq, Repr

/-- The outcome of a master frame (Table 8-5). -/
inductive FrameOutcome
  | good (reply : NodeReply)
  | silent
  | corrupt
  | clash
  deriving DecidableEq, Repr

/-- A GOOD outcome. -/
def FrameOutcome.isGood : FrameOutcome → Bool
  | .good _ => true
  | .silent | .corrupt | .clash => false

/-- The content of an EXCH_REPLY after kind and address. -/
def exchangeContent? : List Byte → Option NodeReply
  | [input, echo, status] => some (.exchange input echo status)
  | _ => none

/-- The content of an ID_REPLY after kind and address: a descriptor for BODY only (R133). -/
def identifyContent? : List Byte → Option NodeReply
  | [] => none
  | k :: rest =>
    match busKindOf? k.toNat with
    | some .body => if rest.length = 16 then some (.identify .body rest) else none
    | some kind => if rest = [] then some (.identify kind []) else none
    | none => none

/-- The content of a DIAG_REPLY after kind and address, for the block asked. -/
def diagContent? (block : Byte) : List Byte → Option NodeReply
  | b :: length :: data =>
    if b = block && decide (length.toNat ≤ 24) && data.length == length.toNat then some (.diag data) else none
  | _ => none

/-- Table 8-5, order 3: what a reply that has begun says to the frame in flight, none when it is CORRUPT: wrong check,
kind, address or length, or content out of bounds. -/
def readReply? (f : Flight) (bytes : List Byte) : Option NodeReply :=
  match bytes.getLast?, bytes.dropLast with
  | some check, kind :: address :: content =>
    if check = crc8 bytes.dropLast && address = nodeAddress f.node then
      match f.kind with
      | .exchange _ _ => if kind = 0x21 then exchangeContent? content else none
      | .identify => if kind = 0x22 then identifyContent? content else none
      | .diagRead block => if kind = 0x23 then diagContent? block content else none
    else none
  | _, _ => none

/-- Table 8-5 for a reply that has begun and ended; `overlap` when overlapping transmitters were seen. -/
def judgeReply (f : Flight) (bytes : List Byte) (overlap : Bool) : FrameOutcome :=
  if overlap || f.overlap then .clash
  else if f.secondHoldOff then .corrupt
  else match readReply? f bytes with
    | some reply => .good reply
    | none => .corrupt

/-- Table 8-5 when the window ends with no reply begun. -/
def judgeSilence (f : Flight) (overlap : Bool) : FrameOutcome :=
  if overlap || f.overlap then .clash else .silent

/-- Table 8-5 for a reply that stopped too long (R135). -/
def judgeStall (f : Flight) (overlap : Bool) : FrameOutcome :=
  if overlap || f.overlap then .clash else .corrupt

/-! ## Sensors (Tables 1-3 and 8-3) -/

/-- The lowest bit of a member's three sensors in its corner node's input image. -/
def memberBit (m : Member) : Nat := if m.outer then 0 else 3

/-- R2, Table 1-3: landed and position from a corner node's input image. -/
def sensedMember (m : Member) (input : Byte) : MemberRec :=
  { landed := if input.getLsbD (memberBit m) then .on else .off
    position := match input.getLsbD (memberBit m + 1), input.getLsbD (memberBit m + 2) with
      | true, false => .locked
      | false, true => .unlocked
      | false, false => .between
      | true, true => .conflict }

/-- The position sensor of a length in a body node's input image. -/
def posSensor (input : Byte) : Length → Bool
  | .l20 => input.getLsbD 0
  | .l40 => input.getLsbD 1
  | .l45 => input.getLsbD 2

/-- Table 5-1: the gear is up. -/
def gearUp (input : Byte) : Bool := input.getLsbD 4 && !input.getLsbD 3

/-- Table 5-1: the gear is down. -/
def gearDown (input : Byte) : Bool := input.getLsbD 3 && !input.getLsbD 4

/-- The length whose position sensor alone is on. -/
def onePosition? (input : Byte) : Option Length :=
  match posSensor input .l20, posSensor input .l40, posSensor input .l45 with
  | true, false, false => some .l20
  | false, true, false => some .l40
  | false, false, true => some .l45
  | _, _, _ => none

/-! ## Answers to requests (R165, R166) -/

/-- What the owner of a request answers: the reply's status and values, and the state it leaves. -/
structure Response where
  status : Status
  values : List Byte
  state : State

/-- A refusal: the state is left as it was. -/
def refuse (status : Status) (s : State) : Response := ⟨status, [], s⟩

/-- OK with no values. -/
def answerOk (s : State) : Response := ⟨.ok, [], s⟩

/-- ACCEPTED. -/
def answerAccepted (s : State) : Response := ⟨.accepted, [], s⟩

end Sys2Proof.Machine
end

