-- ==== Sys2Proof/Machine/Flags.lean ====
section
/-! DEFINITION. Everything the MJ4 derives from its state: the group's member list, the group state and landed summary,
the permits and their causes, the lamps, the watch signals. -/

namespace Sys2Proof.Machine

/-! ## Composition and group state (R10, R14, R16) -/

/-- R10: a spreader that can take part in a lift: ARMED, no set operation running, its setting recorded. -/
def State.ready (s : State) (hb : Headblock) : Bool :=
  s.attachState hb == .armed && !s.setOpOn hb && (s.setting.get hb).setting.isSome

/-- The lift mode recorded is TWIN. -/
def State.twinMode (s : State) (hb : Headblock) : Bool :=
  (s.setting.get hb).setting.map Setting.mode == some .twin

/-- R10: the member list that a composition forms. -/
def State.composed (s : State) : List Member :=
  if headblocks.all fun hb => !s.mode.names hb || s.ready hb then
    allMembers.filter fun m => s.mode.names m.hb && (m.outer || s.twinMode m.hb)
  else []

/-- A member's coil fault is LATCHED (R5). -/
def State.latched (s : State) (m : Member) : Bool := (s.pair m.pair).fault

/-- R14, row 2: a member that makes the group FAULT. -/
def State.faulty (s : State) (m : Member) : Bool :=
  (s.member m).position == .unknown || (s.member m).position == .conflict || s.latched m

/-- R14, Table 1-7. -/
def State.groupStateOf (s : State) (members : List Member) : GroupState :=
  if members.isEmpty then .notReady
  else if members.any s.faulty then .fault
  else if members.all fun m => (s.member m).position == .locked then .allLocked
  else if members.all fun m => (s.member m).position == .unlocked then .allUnlocked
  else .mixed

/-- R16: a group with no member has NONE. -/
def State.summaryOf (s : State) (members : List Member) : Summary :=
  if !(members.any fun m => (s.member m).landed == .on) then .none
  else if members.all fun m => (s.member m).landed == .on then .all
  else .some

/-! ## Permits (R18, R19) -/

/-- R18, Table 1-8: the first failing condition of HOIST_UP_PERMIT, none when all five hold. -/
def State.upCause (s : State) : Option PermitCause :=
  if s.trip.state != .clear then some .trip
  else if s.bypass.isSome then some .bypass
  else if s.order != .idle then some .order
  else if s.setOpRuns then some .setting
  else if s.group.state == .allLocked || s.group.state == .allUnlocked then none
  else some .group

/-- R19, Table 1-9: the first failing condition of HOIST_DOWN_PERMIT, none when all three hold. -/
def State.downCause (s : State) : Option PermitCause :=
  if s.trip.state != .clear then some .trip
  else if s.bypass.isSome then some .bypass
  else if s.order.runs then some .order
  else none

/-! ## Lamps (R158, Table 9-3) -/

/-- The group members of a spreader (R158). -/
def State.groupOf (s : State) (hb : Headblock) : List Member := s.group.members.filter (·.hb == hb)

/-- An order of the kind runs and involves the spreader (R158). -/
def State.runsOver (s : State) (kind : OrderKind) (hb : Headblock) : Bool :=
  match s.order with
  | .active _ head members _ => head.kind == kind && members.any fun m => m.member.hb == hb
  | .idle | .proposed _ _ | .suspended _ | .faultHeld _ _ _ => false

/-- X_LANDED. -/
def State.landedLamp (s : State) (hb : Headblock) : Lamp :=
  let members := s.groupOf hb
  if !members.isEmpty && members.all fun m => (s.member m).landed == .on then .steady
  else if members.any fun m => (s.member m).landed == .on then .flashing
  else .off

/-- X_LOCKED and X_UNLOCKED, for the order kind and the position it turns to. -/
def State.turnLamp (s : State) (kind : OrderKind) (position : Position) (hb : Headblock) : Lamp :=
  let members := s.groupOf hb
  if s.runsOver kind hb then .flashing
  else if !s.order.runs && !members.isEmpty && members.all fun m => (s.member m).position == position then .steady
  else .off

/-- All ten lamps. -/
def State.lampsOf (s : State) : Lamps :=
  { landed := .ofFn s.landedLamp
    locked := .ofFn (s.turnLamp .lock .locked)
    unlocked := .ofFn (s.turnLamp .unlock .unlocked)
    order := match s.order with
      | .active _ _ _ _ => .steady
      | .proposed _ _ => .flashing
      | .idle | .suspended _ | .faultHeld _ _ _ => .off
    fault :=
      if s.order.isFaultHeld || s.group.state == .fault ||
          headblocks.any (fun hb => match s.attachState hb with | .attachFault _ => true | _ => false) then .steady
      else .off
    hold := if s.trip.state == .clear then .off else if s.trip.pending then .flashing else .steady
    bypass := if s.bypass.isSome then .steady else .off }

/-- R159: a STEADY lamp is lit; a FLASHING lamp follows the clock. -/
def State.lampLit (s : State) : Lamp → Bool
  | .steady => true
  | .flashing => s.flash.lit
  | .off => false

/-! ## Watch signals (Table 11-3, R178) -/

/-- A bit of a node's input image, while its signals are known. -/
def State.nodeSignal (s : State) (hb : Headblock) (n : NodeIx) (bit : Nat) : Option Bool :=
  match s.node hb n with
  | some r => if r.signalsKnown then r.input.map (·.getLsbD bit) else none
  | none => none

/-- The headblock of a count of two equal halves: A before B. -/
def halfOf (i half : Nat) : Headblock := if i < half then .a else .b

/-- The current value of a watch signal by its code of Table 11-3; none while it is unknown. -/
def State.signalValue (s : State) (code : Fin 103) : Option Bool :=
  let i := code.val
  if h : i < 8 then (s.cab.get ⟨i, h⟩).level
  else if i = 8 then some (s.attach.get .a).plug
  else if i = 9 then some (s.attach.get .b).plug
  else if i = 10 then some s.trip.chainClosed
  else if i < 59 then
    let j := i - 11
    let k := j % 24
    s.nodeSignal (halfOf j 24) ⟨k / 3 % 4, by omega⟩ (3 * (k / 12) + k % 3)
  else if i < 69 then
    let j := i - 59
    s.nodeSignal (halfOf j 5) bodyNode (j % 5)
  else if i < 101 then
    let j := i - 69
    s.nodeSignal (halfOf j 16) ⟨5 + j / 8 % 2, by omega⟩ (j % 8)
  else if i = 101 then some s.permits.up
  else some s.permits.down

/-- R178: the record after the signal's current value is taken. -/
def SignalRec.follow (r : SignalRec) : Option Bool → SignalRec
  | some v => ⟨some v, false⟩
  | none => if r.value.isSome then { r with gap := true } else r

/-- R179: a change from one known value to the other, with the gap flag before it. -/
def SignalRec.change (r : SignalRec) (now : Option Bool) : Option (Bool × Bool) :=
  match r.value, now with
  | some old, some new => if old == new then none else some (new, r.gap)
  | _, _ => none

/-- R179: the edge matches a change to the value. -/
def Edge.hits : Edge → Bool → Bool
  | .rise, new => new
  | .fall, new => !new
  | .both, _ => true

/-- R179: the WATCH_HIT of one signal, if any. -/
def State.hit (s : State) (code : Fin 103) : Option NoticeBody :=
  match (s.signals.get code).change (s.signalValue code) with
  | some (new, gap) =>
    if s.watches.any fun w => w.signal == code.val && w.edge.hits new then some (.watchHit code.val new gap) else none
  | none => none

end Sys2Proof.Machine
end

