-- ==== Sys2Proof/Machine/CoilDrive.lean ====
section
/-! DEFINITION. The Coil Drive Unit (spec/03): claims, dead times, the echo check, confirming coils off, force-off. -/

namespace Sys2Proof.Machine

/-! ## Dead time (R66, R67) -/

/-- R67, Table 3-6: the dead time of a coil from its spreader's profile, in ms (0 where no profile is held; log 34). -/
def State.deadTime (s : State) (p : PairId) (c : Side) : Nat :=
  match (s.attach.get p.hb).profile with
  | none => 0
  | some pr => if p.isBody then pr.bodyDead else match c with
    | .first => pr.lockDead
    | .second => pr.unlockDead

/-- R66: the time elapsed since a last-on time, modulo 2^32. -/
def State.elapsed (s : State) (t : Word) : Nat := (s.msTime - t).toNat

/-- The time still to run until the dead time of a coil has passed (R67). -/
def State.deadTimeLeft (s : State) (p : PairId) (c : Side) : Nat :=
  match (s.pair p).lastOn c.opposite with
  | none => 0
  | some t => s.deadTime p c - s.elapsed t

/-- R67: the dead time of a coil has passed. -/
def State.deadTimePassed (s : State) (p : PairId) (c : Side) : Bool := s.deadTimeLeft p c == 0

/-! ## Claims (R63 to R65) -/

/-- The body pair that a step drives (Table 5-2). -/
def SetStep.pair (step : SetStep) (hb : Headblock) : PairId :=
  match step with
  | .gearUp | .gearDown => twinGear hb
  | .telescoping _ => telescope hb

/-- The coil that a step drives (Table 5-2). -/
def SetStep.coil : SetStep → Side
  | .gearUp => .second
  | .gearDown => .first
  | .telescoping .extend => .first
  | .telescoping .retract => .second

/-- The entry of a member in an order in TURNING or SETTLING. -/
def State.orderMember? (s : State) (m : Member) : Option OrderMember :=
  s.order.activeMembers.find? fun om => om.member == m

/-- R65: the pair is held by a running operation. -/
def State.holds (s : State) (p : PairId) : Bool :=
  if p.isBody then s.setOpOn p.hb else s.order.activeMembers.any fun om => om.member.pair == p

/-- Table 3-5, check 2: the claimant holds the pair and drives it. -/
def State.drives (s : State) (p : PairId) : Bool :=
  if p.isBody then (s.setting.get p.hb).op.any fun op => op.step.pair p.hb == p
  else s.order.activeMembers.any fun om => om.member.pair == p && om.progress == .driving

/-- Table 3-5: the five checks on a drive claim. -/
def State.driveAllowed (s : State) (p : PairId) (c : Side) : Bool :=
  !s.forceOff && s.drives p && (s.pair p).command != .on c.opposite && (s.pair p).offMark && s.deadTimePassed p c

/-- R64: drive claims for coil `c` of the pairs named, each taken when every check passes and refused without a
trace otherwise. -/
def claimOn (named : PairId → Bool) (c : Side) (s : State) : State :=
  updatePairs (fun p r => if named p && s.driveAllowed p c then { r with command := .on c } else r) s

/-! ## Confirming coils off (R72, R73) -/

/-- R83: the report that every coil is confirmed off takes a HOLDING unit to HELD. -/
def reportConfirmedOff (s : State) : State :=
  match s.trip.state with
  | .holding cause =>
    let s := { s with trip := { s.trip with state := .held cause } }
    post s.holdStateNotice s
  | .clear | .held _ => s

/-- Pairs leave the awaiting-off set; the report is made when the set becomes empty (R73). -/
def dropAwaiting (gone : PairId → Bool) (s : State) : State :=
  let rest := s.awaitingOff.filter fun p => !gone p
  if rest.isEmpty && !s.awaitingOff.isEmpty then reportConfirmedOff { s with awaitingOff := rest }
  else { s with awaitingOff := rest }

/-- The EXCHANGE in flight to a pair's node carries either of its coils on (R73). -/
def State.flightCarries (s : State) (p : PairId) : Bool :=
  match (s.bus.get p.hb).flight with
  | some f => f.node == p.node && (match f.kind with
    | .exchange image _ => (imageEcho p image).anyOn
    | .identify | .diagRead _ => false)
  | none => false

/-- The later of two frames, with the longest period of both (R72: from the earlier of the two onwards). -/
def OnFrame.join (f g : OnFrame) : OnFrame := ⟨max f.endTime g.endTime, max f.longest g.longest⟩

/-- The moment the node's watchdog is out (R131). -/
def OnFrame.watchdogEnd (f : OnFrame) : Nat := f.endTime + Config.watchdogPeriods * f.longest

/-- R72, second event: the moment at which a LOST node's watchdog has turned the pair off. -/
def NodeRec.offTime (r : NodeRec) (p : PairId) : Nat :=
  match r.goodFrame, (if p.low then r.onFrameLow else r.onFrameHigh) with
  | none, none => 0
  | some f, none | none, some f => f.watchdogEnd
  | some f, some g => (f.join g).watchdogEnd

/-- A frame whose image carries a coil of the pair on is still being sent, so its end lies ahead (R72). -/
def State.stillSending (s : State) (p : PairId) : Bool :=
  s.flightCarries p && ((s.bus.get p.hb).flight.any fun f => f.phase == .sending)

/-- R72, second event: the pair's node is LOST and the time has passed. -/
def State.lostAndOff (s : State) (p : PairId) : Bool :=
  match s.node p.hb p.node with
  | some r => r.link == .lost && decide (r.offTime p ≤ s.time) && !s.stillSending p
  | none => false

/-- The pair in the echo image its node table holds, that of a LOST node included (R73). -/
def State.heldEcho (s : State) (p : PairId) : Option Echo :=
  (s.node p.hb p.node).bind fun r => r.echo.map (imageEcho p)

/-- R73: the three cases in which a pair is left out of the awaiting-off set. -/
def State.leftOut (s : State) (p : PairId) : Bool :=
  !(s.attachState p.hb).supplyOn || (s.node p.hb p.node).isNone || s.lostAndOff p ||
    (s.reference p == some .bothOff && s.heldEcho p == some .bothOff && !s.flightCarries p)

/-- R73: the awaiting-off set, built from the commands as they stand before the force-off. -/
def State.awaitingOffOf (s : State) : List PairId :=
  allPairs.filter fun p =>
    ((s.pair p).command != .bothOff || (s.heldEcho p).any Echo.anyOn) && !s.leftOut p

/-- R73: the force-off claim: every command BOTH_OFF and the awaiting-off set built. -/
def claimForceOff (s : State) : State :=
  claimOff (fun _ => true) { s with awaitingOff := s.awaitingOffOf }

/-- R72, third event: the supply of a spreader is switched off. -/
def supplyOffPairs (hb : Headblock) (s : State) : State := dropAwaiting (fun p => p.hb == hb) s

/-- R72, second event, taken for the pairs of one node. -/
def confirmLost (hb : Headblock) (n : NodeIx) (s : State) : State :=
  dropAwaiting (fun p => p.hb == hb && p.node == n && s.lostAndOff p) s

/-! ## The echo check (R66, R69, R70) -/

/-- R69: the echo of a pair disagrees with its reference state. -/
def State.disagrees (s : State) (p : PairId) : Bool :=
  s.echo p == .bothOn || s.reference p != some (s.echo p)

/-- R69: the pairs of a node whose coil fault latches, or latches again, on the reply just entered. -/
def State.latching (s : State) (hb : Headblock) (n : NodeIx) : List PairId :=
  (nodePairs hb n).filter fun p => s.disagrees p && (s.pair p).mismatch

/-- R65, R66, R69: one pair's record after a good reply that its node's record already holds. -/
def State.checkedPair (s : State) (p : PairId) (r : Pair) : Pair :=
  let e := s.echo p
  { command := r.command
    mismatch := s.disagrees p && !r.mismatch
    fault := r.fault || (s.disagrees p && r.mismatch)
    offMark := r.offMark || (e == .bothOff && s.holds p)
    lastOnFirst := if e.shows .first then some s.msTime else r.lastOnFirst
    lastOnSecond := if e.shows .second then some s.msTime else r.lastOnSecond }

/-- R70: MEMBER_FAULT for each pair that latches and was not latched. The spec does not order the two notices of one
reply; the pair in the low bits of the image (member k, TELESCOPE) first is the model's choice (log 41). -/
def State.latchNotices (s : State) (latching : List PairId) : List NoticeBody :=
  (latching.filter fun p => !(s.pair p).fault).map fun p =>
    .memberFault p ((s.reference p).getD .unknown) (s.echo p) (s.pair p).command

/-- R72, first event: echo BOTH_OFF in the reply to a frame that carried BOTH_OFF for the pair. -/
def State.confirmedByReply (s : State) (p : PairId) : Bool :=
  s.echo p == .bothOff && s.reference p == some .bothOff

/-- R136 step 1: the Coil Drive Unit takes a good exchange reply of a node, its record already holding the images and
the reference image. -/
def coilsOnReply (hb : Headblock) (n : NodeIx) (s : State) : State :=
  let latching := s.latching hb n
  let served := nodePairs hb n
  dropAwaiting (fun p => latching.contains p || (served.contains p && s.confirmedByReply p))
    (postAll (s.latchNotices latching)
      (updatePairs (fun p r => if served.contains p then s.checkedPair p r else r) s))

/-! ## Clearing and node events (R71, R74) -/

/-- R71: the pairs whose echo agrees with their command. -/
def State.agrees (s : State) (p : PairId) : Bool := s.echo p == (s.pair p).command.echo

/-- R74: the pairs of the nodes named lose their mismatch counts when the nodes' records are filled or refreshed. -/
def clearMismatches (named : PairId → Bool) (s : State) : State :=
  updatePairs (fun p r => if named p then { r with mismatch := false } else r) s

/-- R66: a last-on time that is 500 ms old becomes "never". -/
def expireLastOn (p : PairId) (c : Side) (s : State) : State :=
  match (s.pair p).lastOn c with
  | none => s
  | some t =>
    updatePairs (fun q r => if q = p then r.setLastOn c none else r)
      (advanceTo (s.time + (Config.lastOnLife - s.elapsed t)) s)

end Sys2Proof.Machine
end

