-- ==== Sys2Proof/Machine/Orders.lean ====
section
/-! DEFINITION. The Order Sequencer (spec/02): creating, checking and turning an order, its endings and aborts. -/

namespace Sys2Proof.Machine

/-! ## Kinds (Table 2-2) -/

/-- The target position. -/
def OrderKind.target : OrderKind → Position
  | .lock => .locked
  | .unlock => .unlocked

/-- The target coil. -/
def OrderKind.coil : OrderKind → Side
  | .lock => .first
  | .unlock => .second

/-- The other kind. -/
def OrderKind.opposite : OrderKind → OrderKind
  | .lock => .unlock
  | .unlock => .lock

/-- The button of a kind. -/
def OrderKind.button : OrderKind → Button
  | .lock => .lock
  | .unlock => .unlock

/-! ## Endings (R46, R47, R59) -/

/-- A pair of a member of the order in TURNING or SETTLING. -/
def State.orderPair (s : State) (p : PairId) : Bool := s.order.activeMembers.any fun om => om.member.pair == p

/-- The member list of ORDER_END, each member with its final progress. -/
def finalProgress (members : List OrderMember) : List (Member × Progress) := members.map fun om => (om.member, om.progress)

/-- An ending to IDLE: ORDER_STAGE, then ORDER_END (R46). -/
def endToIdle (head : OrderHead) (reason : EndReason) (members : List OrderMember) (s : State) : State :=
  postAll [.orderStage .idle head,
      .orderEnd head (if reason = .done then .done else .ended) reason (finalProgress members)]
    { s with order := .idle }

/-- An entry to FAULT_HELD: ORDER_STAGE, then ORDER_END (R46). -/
def enterFaultHeld (head : OrderHead) (reason : EndReason) (members : List OrderMember) (s : State) : State :=
  postAll [.orderStage .faultHeld head, .orderEnd head .held reason (finalProgress members)]
    { s with order := .faultHeld head members reason }

/-- R47: an abort of an order in TURNING or SETTLING; it finds nothing to abort in any other stage. -/
def abortOrder (reason : EndReason) (failed : OrderMember → Bool) (s : State) : State :=
  match s.order with
  | .active _ head members _ =>
    enterFaultHeld head reason (members.map fun om => if failed om then { om with progress := .failed } else om)
      (letGo s.orderPair s)
  | .idle | .proposed _ _ | .suspended _ | .faultHeld _ _ _ => s

/-- Every member of a list, FAILED (R37, R55). -/
def allFailed (members : List Member) : List OrderMember := members.map fun m => ⟨m, .failed, false⟩

/-! ## Turning (R39 to R45) -/

/-- R45: the stage that the members' progress gives. -/
def turningStage (members : List OrderMember) : ActiveStage :=
  if members.all fun om => om.progress == .settled || om.progress.count?.isSome then .settling else .turning

/-- The settle limit of a member, from its spreader's profile (R38; 0 where no profile is held, log 34). -/
def State.settleLimit (s : State) (m : Member) : Nat :=
  ((s.attach.get m.hb).profile.map Profile.settleLimit).getD 0

/-- R38: the larger turn timeout of the members' spreaders. -/
def State.turnTimeout (s : State) (members : List Member) : Nat :=
  (members.map fun m => ((s.attach.get m.hb).profile.map Profile.turnTimeout).getD 0).foldl max 0

/-- R41: a member entering DEAD_WAIT passes on to DRIVING when the dead time has passed. -/
def State.enterDeadWait (s : State) (kind : OrderKind) (om : OrderMember) : OrderMember :=
  { om with progress := if s.deadTimePassed om.member.pair kind.coil then .driving else .deadWait
            oppositeSeen := false }

/-- R43, R44: a settle slip. -/
def State.slip (s : State) (kind : OrderKind) (om : OrderMember) : OrderMember :=
  if om.oppositeSeen then s.enterDeadWait kind om else { om with progress := .driving }

/-- R43: the settle count advanced by one. -/
def State.settleOnce (s : State) (om : OrderMember) (count : Nat) : OrderMember :=
  { om with progress := if s.settleLimit om.member ≤ count + 1 then .settled else .settling (count + 1) }

/-- R40 to R44: one member on a good reply of its node, the reply already in the member, coil and node records. -/
def State.memberOnReply (s : State) (kind : OrderKind) (om : OrderMember) : OrderMember :=
  let echo := s.echo om.member.pair
  let onTarget := (s.member om.member).position == kind.target
  let seen := { om with oppositeSeen := om.oppositeSeen || echo.shows kind.coil.opposite }
  match om.progress with
  | .offWait => if echo == .bothOff then s.enterDeadWait kind om else om
  | .deadWait => if echo.anyOn then { om with progress := .offWait } else om
  | .driving => if onTarget then { seen with progress := .settling 0 } else seen
  | .settling count =>
    if !onTarget then s.slip kind seen
    else if echo == .bothOff then s.settleOnce seen count
    else seen
  | .settled => if onTarget then seen else s.slip kind seen
  | .failed => om

/-- R39, R45, R46: the members' progress changed: the claims that change, the stage, and DONE when all are SETTLED. -/
def setProgress (new : List OrderMember) (s : State) : State :=
  match s.order with
  | .active stage head old deadline =>
    let moved := old.zip new
    let starts := fun p : PairId => moved.any fun (o, n) => n.member.pair == p && o.progress != .driving && n.progress == .driving
    let stops := fun p : PairId => moved.any fun (o, n) => n.member.pair == p && o.progress == .driving && n.progress != .driving
    let s := claimOn starts head.kind.coil
      (claimOff stops { s with order := .active (turningStage new) head new deadline })
    if new.all fun om => om.progress == .settled then endToIdle head .done new (letGo s.orderPair s)
    else if turningStage new = stage then s
    else post (.orderStage (turningStage new).stage head) s
  | .idle | .proposed _ _ | .suspended _ | .faultHeld _ _ _ => s

/-! ## The check (R36 to R38) -/

/-- Table 2-7: the first check that fails; `hold` is the hold record's member list on a resume. -/
def State.checkFails (s : State) (hold : Option (List Member)) : Option EndReason :=
  if s.group.state == .notReady then some .notReady
  else if hold.any (· != s.group.members) then some .spreaderLost
  else if s.group.state == .fault then some .groupFault
  else if s.bypass.isNone && !(s.group.members.all fun m => (s.member m).landed == .on) then some .notLanded
  else none

/-- R38: each member's progress at the start of turning. For a member set to SETTLING here R43 gives no start to its span
of replies, since it has not left DEAD_WAIT in this order: the span starts here, with no opposite coil seen, which is the
model's choice (log 24). -/
def State.startProgress (s : State) (kind : OrderKind) (m : Member) : OrderMember :=
  ⟨m, if (s.member m).position == kind.target then .settling 0 else .offWait, false⟩

/-- R38: every check has passed. -/
def beginTurning (head : OrderHead) (s : State) : State :=
  let turning := { head with turningBegun := true }
  let members := s.group.members.map (s.startProgress head.kind)
  let settling : List NoticeBody :=
    if turningStage members = .settling then [.orderStage .settling turning] else []
  let s := { s with order := .active (turningStage members) turning members (s.time + s.turnTimeout s.group.members) }
  postAll (.orderStage .turning turning :: settling) (claimOff s.orderPair s)

/-- R36, R37: an order enters CHECKED and leaves it. -/
def checkOrder (head : OrderHead) (hold : Option (List Member)) (s : State) : State :=
  let s := post (.orderStage .checked head) s
  match s.checkFails hold with
  | none => beginTurning head s
  | some reason =>
    if head.turningBegun then enterFaultHeld head reason (allFailed (hold.getD [])) s
    else endToIdle head reason [] s

/-! ## Creating an order (R29 to R31) -/

/-- R30: the confirm window, in ms. -/
def State.confirmWindow (s : State) : Nat := s.timing.confirm * 1000

/-- R30: an order proposed by the link. -/
def propose (head : OrderHead) (s : State) : State :=
  post (.orderStage .proposed head) { s with order := .proposed head (s.time + s.confirmWindow) }

/-- Table 2-5, checks 2 to 6. -/
def State.orderRefusal (s : State) : Option Status :=
  if s.authority == .cabOnly then some .authority
  else if s.trip.state != .clear then some .hold
  else if s.order.isFaultHeld then some .held
  else if s.order != .idle then some .busy
  else if s.group.state == .notReady then some .state
  else none

/-- ORDER (R29, R30). -/
def answerOrder (kind : Byte) (s : State) : Response :=
  match orderKindOf? kind with
  | none => refuse .range s
  | some kind =>
    match s.orderRefusal with
    | some status => refuse status s
    | none =>
      let head : OrderHead := ⟨kind, .link, false⟩
      answerAccepted (if s.authority = .linkOnly then checkOrder head none s else propose head s)

/-- R32: a refused press. -/
def refusePress (button : Button) (reason : CabReason) (s : State) : State :=
  post (.cabRefused button reason s.order.stage) s

/-- R155, third case: the press is for the kind that a CONFIRM press taken at this same time has confirmed (log 43). -/
def State.confirmedNow (s : State) (kind : OrderKind) : Bool := s.confirmed == some (kind, s.time)

/-- Table 2-6; where its first check would give AUTHORITY, a press together with the CONFIRM of its kind is refused with
WRONG_BUTTON (R155; log 43). -/
def State.pressRefusal (s : State) (kind : OrderKind) : Option CabReason :=
  if s.authority != .cabOnly then some (if s.confirmedNow kind then .wrongButton else .authority)
  else if s.trip.state != .clear then some .hold
  else if s.order.isFaultHeld then some .held
  else if s.order != .idle then some .busy
  else if s.group.state == .notReady then some .notReady
  else none

/-- A cab LOCK or UNLOCK press (R31, R33, R155). -/
def pressOrder (kind : OrderKind) (s : State) : State :=
  match s.order with
  | .proposed head _ =>
    if head.kind = kind then refusePress kind.button .wrongButton s else endToIdle head .cabCancel [] s
  | .idle | .active _ _ _ _ | .suspended _ | .faultHeld _ _ _ =>
    match s.pressRefusal kind with
    | some reason => refusePress kind.button reason s
    | none => checkOrder ⟨kind, .cab, false⟩ none s

/-- A cab CONFIRM press (R33, R34); one taken in PROPOSED is noted for R155. -/
def pressConfirm (s : State) : State :=
  match s.order with
  | .proposed head _ => checkOrder head none { s with confirmed := some (head.kind, s.time) }
  | .idle | .active _ _ _ _ | .suspended _ | .faultHeld _ _ _ => refusePress .confirm .noOrder s

/-! ## Events that reach a running order -/

/-- R34: the confirm deadline is reached. -/
def confirmLate (s : State) : State :=
  match s.order with
  | .proposed head deadline => endToIdle head .confirmLate [] (advanceTo deadline s)
  | .idle | .active _ _ _ _ | .suspended _ | .faultHeld _ _ _ => s

/-- R48: the turn deadline is reached. -/
def turnLate (s : State) : State :=
  match s.order with
  | .active _ _ _ deadline => abortOrder .turnTimeout (fun om => om.progress != .settled) (advanceTo deadline s)
  | .idle | .proposed _ _ | .suspended _ | .faultHeld _ _ _ => s

/-- R41: the dead time of a member in DEAD_WAIT expires. -/
def memberDeadTime (m : Member) (s : State) : State :=
  match s.order with
  | .active _ head members _ =>
    if members.any fun om => om.member == m && om.progress == .deadWait then
      setProgress (members.map fun om => if om.member = m then { om with progress := .driving } else om)
        (advanceTo (s.time + s.deadTimeLeft m.pair head.kind.coil) s)
    else s
  | .idle | .proposed _ _ | .suspended _ | .faultHeld _ _ _ => s

/-- R52: a corner node goes LOST. -/
def orderNodeLost (hb : Headblock) (n : NodeIx) (s : State) : State :=
  let served := fun om : OrderMember => (nodeMembers hb n).contains om.member
  if s.order.activeMembers.any served then abortOrder .nodeLost served s else s

/-- The member goes from landed ON to OFF and bypass is off (R49). -/
def State.landedLost (s : State) (old : State) (m : Member) : Bool :=
  s.bypass.isNone && (old.member m).landed == .on && (s.member m).landed == .off

/-- R40 to R51, R54: the order takes a good reply of corner node `n`; `old` is the state before the reply and
`latching` the pairs that it latches. -/
def orderOnReply (hb : Headblock) (n : NodeIx) (latching : List PairId) (old s : State) : State :=
  match s.order with
  | .active _ head members _ =>
    let served := fun om : OrderMember => (nodeMembers hb n).contains om.member
    let coil := fun om : OrderMember => served om && latching.contains om.member.pair
    let sensor := fun om : OrderMember => served om && (s.member om.member).position == .conflict
    let landed := fun om : OrderMember => served om && s.landedLost old om.member
    let failed := fun om => coil om || sensor om || landed om
    if members.any coil then abortOrder .coilFault failed s
    else if members.any sensor then abortOrder .sensorFault failed s
    else if members.any landed then abortOrder .landedLost failed s
    else setProgress (members.map fun om => if served om then s.memberOnReply head.kind om else om) s
  | .idle | .proposed _ _ | .suspended _ | .faultHeld _ _ _ => s

/-- R53: bypass is left. -/
def orderBypassLeft (s : State) : State :=
  match s.order with
  | .proposed head _ => endToIdle head .bypassLeft [] s
  | .active _ _ _ _ => abortOrder .bypassLeft (fun _ => false) s
  | .idle | .suspended _ | .faultHeld _ _ _ => s

/-! ## Requests -/

/-- SET_AUTHORITY (R28). -/
def answerSetAuthority (authority : Byte) (s : State) : Response :=
  match authorityOf? authority with
  | none => refuse .range s
  | some a =>
    if s.order.isFaultHeld then refuse .held s
    else if s.order != .idle then refuse .busy s
    else answerOk { s with authority := a }

/-- ABANDON (R55, R89, Table 2-10). -/
def answerAbandon (s : State) : Response :=
  match s.order with
  | .idle | .faultHeld _ _ _ => refuse .state s
  | .proposed head _ => answerOk (endToIdle head .linkAbandon [] s)
  | .active _ _ _ _ => answerOk (abortOrder .linkAbandon (fun _ => false) s)
  | .suspended head =>
    let members := (s.trip.hold.map HoldRec.members).getD []
    answerOk (enterFaultHeld head .holdAbandoned (allFailed members)
      { s with trip := { s.trip with hold := none } })

/-- R58, first part: an order in FAULT_HELD is emptied to IDLE. -/
def emptyFaultHeld (s : State) : State :=
  match s.order with
  | .faultHeld head _ _ => post (.orderStage .idle head) { s with order := .idle }
  | .idle | .proposed _ _ | .active _ _ _ _ | .suspended _ => s

/-- R58: the lists of members and of body pairs whose coil fault is still LATCHED. -/
def State.stillLatched (s : State) : List Byte :=
  memberList (allMembers.filter s.latched) ++
    counted (((headblocks.flatMap bodyPairs).filter fun p => (s.pair p).fault).map fun p => [pairCode p])

/-- CLEAR_FAULTS (R58, R71). -/
def answerClearFaults (s : State) : Response :=
  match s.order with
  | .proposed _ _ | .active _ _ _ _ => refuse .busy s
  | .suspended _ => refuse .hold s
  | .idle | .faultHeld _ _ _ =>
    let s := clearLatches s.agrees (emptyFaultHeld s)
    ⟨.ok, s.stillLatched, s⟩

end Sys2Proof.Machine
end

