-- ==== Sys2Proof/Machine/LiftGroup.lean ====
section
/-! DEFINITION. The Lift Group Unit (spec/01): deriving members, composing the group, group state and permits, its
three requests. -/

namespace Sys2Proof.Machine

/-! ## Members and composition (R2 to R4, R10 to R12) -/

/-- R3: a member's values as its attachment state and its corner node's record give them. -/
def State.derivedMember (s : State) (m : Member) : MemberRec :=
  if (s.attachState m.hb).inService then
    match s.onlineInput m.hb m.node with
    | some input => sensedMember m input
    | none => .reset
  else .reset

/-- R4: the members named are derived again. -/
def rederive (named : Member → Bool) (s : State) : State :=
  updateMembers (fun m r => if named m then s.derivedMember m else r) s

/-- R4: the two members of a corner node. -/
def rederiveNode (hb : Headblock) (n : NodeIx) (s : State) : State := rederive (nodeMembers hb n).contains s

/-- R4: the eight members of a spreader. -/
def rederiveHead (hb : Headblock) (s : State) : State := rederive (fun m => m.hb == hb) s

/-- R11, R12: a composition; a changed list aborts an order in TURNING or SETTLING with SPREADER_LOST. -/
def compose (s : State) : State :=
  if s.composed = s.group.members then s
  else abortOrder .spreaderLost (fun om => !s.ready om.member.hb)
    { s with group := { s.group with members := s.composed } }

/-! ## Evaluation (R14 to R21) -/

/-- R15: the group state and landed summary. -/
def evalGroup (s : State) : State :=
  { s with group :=
      { members := s.group.members, state := s.groupStateOf s.group.members
        summary := s.summaryOf s.group.members } }

/-- R17: GROUP_STATE when mode, list, state or summary differ from those of `old`. -/
def postGroup (old s : State) : State :=
  postAll (if s.mode = old.mode ∧ s.group = old.group then [] else [.groupState s.mode s.group]) s

/-- R20: PERMIT for each permit whose level changes, HOIST_UP_PERMIT first. -/
def State.permitNotices (s : State) : List NoticeBody :=
  (if s.upCause.isNone = s.permits.up then [] else [.permit .up s.upCause.isNone s.upCause]) ++
    (if s.downCause.isNone = s.permits.down then [] else [.permit .down s.downCause.isNone s.downCause])

/-- R18 to R20: both permits evaluated. -/
def evalPermits (s : State) : State :=
  postAll s.permitNotices { s with permits := ⟨s.upCause.isNone, s.downCause.isNone⟩ }

/-! ## Requests (R8, R9, R22, R23) -/

/-- Table 1-5, checks 2 to 7. -/
def State.modeRefusal (s : State) : Option Status :=
  if s.trip.state != .clear then some .hold
  else if s.order.isFaultHeld then some .held
  else if s.order != .idle then some .busy
  else if s.bypass.isSome then some .state
  else if s.setOpRuns then some .busy
  else if s.group.state == .notReady || (s.group.state == .allUnlocked && s.group.summary == .none) then none
  else some .locked

/-- SET_TROLLEY_MODE (R8, R9). -/
def answerSetTrolleyMode (mode : Byte) (s : State) : Response :=
  match modeOf? mode with
  | none => refuse .range s
  | some mode =>
    match s.modeRefusal with
    | some status => refuse status s
    | none => answerOk (if mode = s.mode then s else compose { s with mode := mode })

/-- R22: the order progress of a member, none when no order lists it. -/
def State.progressOf (s : State) (m : Member) : Option Progress :=
  match s.order with
  | .active _ _ members _ | .faultHeld _ members _ => (members.find? fun om => om.member == m).map OrderMember.progress
  | .idle | .proposed _ _ | .suspended _ => none

/-- Table 10-3. -/
def State.memberRecord (s : State) (m : Member) : List Byte :=
  let progress := s.progressOf m
  [memberCode m, (s.member m).landed.code, (s.member m).position.code, flag (s.inGroup m),
    (s.pair m.pair).command.code, (s.echo m.pair).code, flag (s.latched m),
    (progress.map Progress.code).getD 6, byte ((progress.bind Progress.count?).getD 0)]

/-- READ_MEMBERS (R22). -/
def answerReadMembers (s : State) : Response := ⟨.ok, allMembers.flatMap s.memberRecord, s⟩

/-- R23: the cause a member contributes to a FAULT group: UNKNOWN 0, CONFLICT 1, COIL_FAULT 2. -/
def State.faultCause (s : State) (m : Member) : Byte :=
  if (s.member m).position = .unknown then 0 else if (s.member m).position = .conflict then 1 else 2

/-- R23: the fault list. -/
def State.faultList (s : State) : List Byte :=
  counted ((if s.group.state = .fault then s.group.members.filter s.faulty else []).map fun m =>
    [memberCode m, s.faultCause m])

/-- R23: NOT_ARMED 0, SET_RUNNING 1, SETTING_UNSET 2, NONE 3. -/
def State.notReadyReason (s : State) (hb : Headblock) : Byte :=
  if s.attachState hb != .armed then 0
  else if s.setOpOn hb then 1
  else if (s.setting.get hb).setting.isNone then 2
  else 3

/-- R23: the reason of each named spreader while the group is NOT_READY, an optional value each (log 11). -/
def State.notReadyReasons (s : State) : List Byte :=
  headblocks.flatMap fun hb =>
    optional 1 (if s.group.state = .notReady ∧ s.mode.names hb then some [s.notReadyReason hb] else none)

/-- A permit's level and its cause when off. -/
def permitBytes (level : Bool) (cause : Option PermitCause) : List Byte :=
  flag level :: optional 1 (if level then none else cause.map fun c => [c.code])

/-- Both permits as READ_GROUP and GET_STATUS give them. -/
def State.permitsBytes (s : State) : List Byte :=
  permitBytes s.permits.up s.upCause ++ permitBytes s.permits.down s.downCause

/-- READ_GROUP (R23). -/
def answerReadGroup (s : State) : Response :=
  ⟨.ok, [s.mode.code, s.group.state.code, s.group.summary.code] ++ memberList s.group.members ++ s.faultList ++
      s.notReadyReasons ++ s.permitsBytes, s⟩

end Sys2Proof.Machine
end

