-- ==== Sys2Proof/Machine/Bypass.lean ====
section
/-! DEFINITION. The Bypass Control (spec/06). -/

namespace Sys2Proof.Machine

/-- R109: bypass is left: BYPASS_STATE, then what the Order Sequencer does (R53); no effect while it is OFF. -/
def leaveBypass (cause : LeaveCause) (s : State) : State :=
  match s.bypass with
  | none => s
  | some hb => orderBypassLeft (post (.bypassState false hb (some cause)) { s with bypass := none })

/-- R105: the one spreader that a solo mode names. -/
def TrolleyMode.solo? : TrolleyMode → Option Headblock
  | .soloA => some .a
  | .soloB => some .b
  | .tandem => none

/-- The key position is BYPASS; UNKNOWN is not (R153, R156). -/
def State.keyBypass (s : State) : Bool := (s.cabIn .bypassKey).level == some true

/-- BYPASS_ENTER: the checks of Table 6-2 (R106). -/
def answerBypassEnter (s : State) : Response :=
  if s.trip.state != .clear then refuse .hold s
  else if s.bypass.isSome then refuse .state s
  else if !s.keyBypass then refuse .key s
  else match s.mode.solo? with
    | none => refuse .state s
    | some hb =>
      if s.attachState hb != .armed then refuse .notArmed s
      else if s.order != .idle then refuse .busy s
      else answerOk (post (.bypassState true hb none) { s with bypass := some hb })

/-- BYPASS_EXIT (R109). -/
def answerBypassExit (s : State) : Response :=
  if s.bypass.isNone then refuse .state s else answerOk (leaveBypass .request s)

end Sys2Proof.Machine
end

