-- ==== Sys2Proof/Machine/Setting.lean ====
section
/-! DEFINITION. The Spreader Setting Unit (spec/05): the setting record, its watch and the set operation. -/

namespace Sys2Proof.Machine

/-! ## Deriving a setting (R92, R93) -/

/-- The body node's input image while the node is ONLINE and holds one (R93, R96). -/
def State.bodyInput (s : State) (hb : Headblock) : Option Byte := s.onlineInput hb bodyNode

/-- Table 5-3: the setting that a body node's image shows. -/
def sensedSetting (twinCapable : Bool) (input : Byte) : Option Setting :=
  match onePosition? input with
  | none => none
  | some length =>
    if !twinCapable || gearUp input then some ⟨length, .single⟩
    else if length = .l40 ∧ gearDown input then some ⟨.l40, .twin⟩
    else none

/-- R93: the setting derived on entry to ARMED. -/
def State.derivedSetting (s : State) (hb : Headblock) : Option Setting :=
  match s.bodyInput hb, (s.attach.get hb).descriptor with
  | some input, some d => (sensedSetting d.twin input).filter fun st => d.supports st.length
  | _, _ => none

/-! ## Endings (R100, R101) -/

/-- The pairs of a spreader's body node. -/
def bodyPairOf (hb : Headblock) (p : PairId) : Bool := p.hb == hb && p.isBody

/-- R101: a running set operation is aborted; a cause that finds none has no effect. -/
def abortSetOp (hb : Headblock) (reason : SetReason) (s : State) : State :=
  match (s.setting.get hb).op with
  | none => s
  | some op =>
    compose (post (.setEnd hb reason op.target op.step.name none)
      (updateSetting hb (fun _ => ⟨none, 0, none⟩) (letGo (bodyPairOf hb) s)))

/-- R100: the last needed step has ended. -/
def completeSetOp (hb : Headblock) (op : SetOp) (s : State) : State :=
  compose (post (.setEnd hb .none op.target op.step.name (some op.target))
    (updateSetting hb (fun _ => ⟨some op.target, 0, none⟩) (letGo (bodyPairOf hb) s)))

/-! ## Steps (R97 to R99) -/

/-- Table 5-5: GEAR_UP is needed. -/
def needGearUp (twinCapable : Bool) (target : Setting) (input : Byte) : Bool :=
  twinCapable && !gearUp input && (target.mode == .single || !posSensor input target.length)

/-- Table 5-5: TELESCOPING is needed. -/
def needTelescoping (target : Setting) (input : Byte) : Bool := !posSensor input target.length

/-- Table 5-5: GEAR_DOWN is needed. -/
def needGearDown (twinCapable : Bool) (target : Setting) (input : Byte) : Bool :=
  twinCapable && target.mode == .twin && !gearDown input

/-- A step of Table 5-2 with its order, 0 to 2. -/
def StepName.rank : StepName → Nat
  | .gearUp => 0
  | .telescoping => 1
  | .gearDown => 2
  | .none => 3

/-- R97, R99: the first needed step that comes after the step given, `none` of it standing for the start. -/
def nextStep? (twinCapable : Bool) (target : Setting) (input : Byte) (after : Option StepName) : Option StepName :=
  let later := fun st : StepName => after.all fun a => decide (a.rank < st.rank)
  if later .gearUp && needGearUp twinCapable target input then some .gearUp
  else if later .telescoping && needTelescoping target input then some .telescoping
  else if later .gearDown && needGearDown twinCapable target input then some .gearDown
  else none

/-- R99: 20 shorter than 40 and 40 shorter than 45. -/
def Length.feet : Length → Nat
  | .l20 => 20
  | .l40 => 40
  | .l45 => 45

/-- R99: the direction of TELESCOPING, none when it cannot be decided. -/
def direction? (target : Length) (input : Byte) : Option Direction :=
  match onePosition? input with
  | none => none
  | some now => if now.feet < target.feet then some .extend else some .retract

/-- The step with its direction; none when the direction cannot be decided. -/
def stepOf? (name : StepName) (target : Length) (input : Byte) : Option SetStep :=
  match name with
  | .gearUp => some .gearUp
  | .telescoping => (direction? target input).map .telescoping
  | .gearDown => some .gearDown
  | .none => none

/-- The set operation record rewritten. -/
def setOp (hb : Headblock) (op : SetOp) (s : State) : State := updateSetting hb (fun u => { u with op := some op }) s

/-- R98: the claim of a step in DRIVING. -/
def driveStep (hb : Headblock) (op : SetOp) (s : State) : State :=
  claimOn (fun p => p == op.step.pair hb) op.step.coil (setOp hb { op with phase := .driving } s)

/-- R98: a step enters DEAD_WAIT, and DRIVING when the dead time has passed. -/
def enterStepDeadWait (hb : Headblock) (op : SetOp) (s : State) : State :=
  if s.deadTimePassed (op.step.pair hb) op.step.coil then driveStep hb op s
  else setOp hb { op with phase := .deadWait } s

/-- R98: a step begins, in OFF_WAIT when its pair's off mark is clear and in DEAD_WAIT when it is set. -/
def beginStep (hb : Headblock) (op : SetOp) (s : State) : State :=
  if (s.pair (op.step.pair hb)).offMark then enterStepDeadWait hb op s
  else setOp hb { op with phase := .offWait } s

/-- R99: the needed step of the name given becomes the current step, or the operation is aborted with
POSITION_UNKNOWN, SET_END naming TELESCOPING (log 21). -/
def takeStep (hb : Headblock) (op : SetOp) (name : StepName) (input : Byte) (s : State) : State :=
  match stepOf? name op.target.length input with
  | some step => beginStep hb { op with step := step } s
  | none => abortSetOp hb .positionUnknown (setOp hb { op with step := .telescoping .extend } s)

/-- R99: a step has ended. -/
def endStep (hb : Headblock) (op : SetOp) (input : Byte) (s : State) : State :=
  match nextStep? (s.twinCapable hb) op.target input (some op.step.name) with
  | some name => takeStep hb op name input s
  | none => completeSetOp hb op s

/-- Table 5-2: the step sensor is seen. -/
def stepSeen (op : SetOp) (input : Byte) : Bool :=
  match op.step with
  | .gearUp => gearUp input
  | .telescoping _ => posSensor input op.target.length
  | .gearDown => gearDown input

/-- R98: the current step on a good reply of the body node. -/
def stepOnReply (hb : Headblock) (op : SetOp) (input : Byte) (s : State) : State :=
  let echo := s.echo (op.step.pair hb)
  match op.phase with
  | .offWait => if echo = .bothOff then enterStepDeadWait hb op s else s
  | .deadWait => if echo.anyOn then setOp hb { op with phase := .offWait } s else s
  | .driving =>
    if stepSeen op input then claimOff (fun p => p == op.step.pair hb) (setOp hb { op with phase := .stopping } s) else s
  | .stopping => if echo = .bothOff then endStep hb op input s else s

/-! ## The setting watch (R94) -/

/-- R94: every watched sensor is on. -/
def watchedOn (twinCapable : Bool) (setting : Setting) (input : Byte) : Bool :=
  posSensor input setting.length &&
    (!twinCapable || (match setting.mode with
      | .single => input.getLsbD 4
      | .twin => input.getLsbD 3))

/-- R94: the setting watch takes a good reply of the body node. -/
def watchSetting (hb : Headblock) (setting : Setting) (input : Byte) (s : State) : State :=
  if watchedOn (s.twinCapable hb) setting input then updateSetting hb (fun u => { u with watch := 0 }) s
  else if (s.setting.get hb).watch + 1 < 3 then updateSetting hb (fun u => { u with watch := u.watch + 1 }) s
  else compose (updateSetting hb (fun u => { u with setting := none, watch := 0 }) s)

/-! ## Events (R94, R98, R101) -/

/-- A good exchange reply of the body node: an abort on a latch, the current step, or the setting watch. -/
def settingOnBodyReply (hb : Headblock) (latching : List PairId) (input : Byte) (s : State) : State :=
  match (s.setting.get hb).op, (s.setting.get hb).setting with
  | some op, _ =>
    if latching.any (bodyPairOf hb) then abortSetOp hb .coilFault s else stepOnReply hb op input s
  | none, some setting => if s.attachState hb = .armed then watchSetting hb setting input s else s
  | none, none => s

/-- R101: a corner node's good reply that shows a served member landed ON. -/
def settingOnCornerReply (hb : Headblock) (n : NodeIx) (s : State) : State :=
  if (nodeMembers hb n).any fun m => s.served m && (s.member m).landed == .on then abortSetOp hb .landed s else s

/-- R136, step 4: the Spreader Setting Unit takes a good exchange reply. -/
def settingOnReply (hb : Headblock) (n : NodeIx) (latching : List PairId) (input : Byte) (s : State) : State :=
  if n = bodyNode then settingOnBodyReply hb latching input s
  else if n.val < 4 then settingOnCornerReply hb n s
  else s

/-- R138: the body node goes LOST. -/
def settingNodeLost (hb : Headblock) (n : NodeIx) (s : State) : State :=
  if n = bodyNode then abortSetOp hb .nodeLost s else s

/-- R98: the body dead time of a step in DEAD_WAIT expires. -/
def stepDeadTime (hb : Headblock) (s : State) : State :=
  match (s.setting.get hb).op with
  | none => s
  | some op =>
    if op.phase = .deadWait then
      driveStep hb op (advanceTo (s.time + s.deadTimeLeft (op.step.pair hb) op.step.coil) s)
    else s

/-- R101: the deadline of a set operation is reached. -/
def setLate (hb : Headblock) (s : State) : State :=
  match (s.setting.get hb).op with
  | none => s
  | some op => abortSetOp hb .timeout (advanceTo op.deadline s)

/-! ## SET_SPREADER (R95, R96) -/

/-- R95: an order involves the spreader. -/
def State.orderInvolves (s : State) (hb : Headblock) : Bool :=
  match s.order with
  | .proposed _ _ => s.mode.names hb
  | .active _ _ members _ => members.any fun om => om.member.hb == hb
  | .suspended _ => s.trip.hold.any fun h => h.members.any fun m => m.hb == hb
  | .idle | .faultHeld _ _ _ => false

/-- An order or a set operation involves the spreader (R95, R120, R122). -/
def State.involved (s : State) (hb : Headblock) : Bool := s.orderInvolves hb || s.setOpOn hb

/-- Table 5-4, check 5. -/
def State.settingValid (s : State) (hb : Headblock) (target : Setting) : Bool :=
  match (s.attach.get hb).descriptor with
  | none => false
  | some d => d.supports target.length && (target.mode == .single || (target.length == .l40 && d.twin))

/-- The served members of a spreader (Table 5-1). -/
def State.servedMembers (s : State) (hb : Headblock) : List Member := (membersOf hb).filter s.served

/-- Every served member has position UNLOCKED. -/
def State.allUnlocked (s : State) (hb : Headblock) : Bool :=
  (s.servedMembers hb).all fun m => (s.member m).position == .unlocked

/-- Table 5-4, checks 2 to 7. -/
def State.setRefusal (s : State) (hb : Headblock) (target : Setting) : Option Status :=
  if s.attachState hb != .armed then some .notArmed
  else if s.trip.state != .clear then some .hold
  else if s.involved hb then some .busy
  else if !s.settingValid hb target then some .modeInvalid
  else if (s.servedMembers hb).any fun m => (s.member m).landed == .on then some .landed
  else if !s.allUnlocked hb then some .locked
  else none

/-- R97: the deadline of an operation accepted now, its set timeout from the profile (0 where none; log 34). -/
def State.setDeadline (s : State) (hb : Headblock) : Nat :=
  s.time + ((s.attach.get hb).profile.map Profile.setTimeout).getD 0 * 1000

/-- R96, first case: the body node is not ONLINE or holds no input image. -/
def setWithoutBody (hb : Headblock) (target : Setting) (s : State) : State :=
  compose (post (.setEnd hb .nodeLost target .none none) (updateSetting hb (fun _ => ⟨none, 0, none⟩) s))

/-- R96, second case: no step is needed; the watch count stands as it was (log 37). -/
def setAtTarget (hb : Headblock) (target : Setting) (s : State) : State :=
  compose (post (.setEnd hb .none target .none (some target))
    (updateSetting hb (fun u => { u with setting := some target }) s))

/-- R96, third case: a set operation starts at its first needed step. -/
def startSetOp (hb : Headblock) (target : Setting) (name : StepName) (input : Byte) (s : State) : State :=
  let op : SetOp := ⟨target, .gearUp, .offWait, s.setDeadline hb⟩
  compose (takeStep hb op name input (updateSetting hb (fun _ => ⟨none, 0, some op⟩) s))

/-- R96. -/
def acceptSet (hb : Headblock) (target : Setting) (s : State) : State :=
  match s.bodyInput hb with
  | none => setWithoutBody hb target s
  | some input =>
    match nextStep? (s.twinCapable hb) target input none with
    | none => setAtTarget hb target s
    | some name => startSetOp hb target name input s

/-- SET_SPREADER (R95, R96). -/
def answerSetSpreader (headblock length mode : Byte) (s : State) : Response :=
  match targetOf? headblock length mode with
  | none => refuse .range s
  | some (hb, target) =>
    match s.setRefusal hb target with
    | some status => refuse status s
    | none => answerAccepted (acceptSet hb target s)

/-! ## Attachment changes (R92, R101, R128) -/

/-- R92: the setting on a departure from ARMED, on an entry to ARMED, and otherwise. -/
def settingOnAttach (hb : Headblock) (left entered : AttachState) (s : State) : State :=
  if entered = .armed then
    if left = .armed then s else updateSetting hb (fun u => ⟨s.derivedSetting hb, 0, u.op⟩) s
  else if left = .armed then updateSetting hb (fun u => ⟨none, 0, u.op⟩) s
  else s

end Sys2Proof.Machine
end

