-- ==== Sys2Proof/Machine/Attachment.lean ====
section
/-! DEFINITION. The Spreader Attachment Managers (spec/07): plug, supply, census, profile, arming, link down. -/

namespace Sys2Proof.Machine

/-! ## Node tables (R116, R126, R137) -/

/-- R137: a record filled at a first identification. -/
def freshNode (kind : NodeKind) (answered : Nat) : NodeRec :=
  { kind := kind, link := .online, misses := 0, lastGood := answered, lastBegun := none, input := none, echo := none
    output := 0, restarted := false, supplyLow := false, reference := none, goodFrame := none, onFrameLow := none
    onFrameHigh := none, signalsKnown := false }

/-- R126: a record refreshed at a re-identification that passes with the same serial (log 22). -/
def refreshNode (kind : NodeKind) (answered : Nat) (r : NodeRec) : NodeRec :=
  { r with kind := kind, link := .online, misses := 0, lastGood := answered, lastBegun := none, echo := none
           reference := none, signalsKnown := r.input.isSome }

/-- The kind that a descriptor lists for an address. -/
def Descriptor.kindAt (d : Descriptor) (n : NodeIx) : Option NodeKind := (d.nodes.find? fun e => e.1 == n).map (·.2)

/-- The time at which an address answered the census. -/
def Census.answeredAt (c : Census) (n : NodeIx) : Nat := ((c.answers.get n).map Answer.time).getD 0

/-- R74: the pairs of the nodes that a descriptor lists. -/
def listedPair (hb : Headblock) (d : Descriptor) (p : PairId) : Bool := p.hb == hb && (d.kindAt p.node).isSome

/-- R116, R127: the node table filled afresh. -/
def fillTable (hb : Headblock) (d : Descriptor) (c : Census) (s : State) : State :=
  clearMismatches (listedPair hb d)
    (updateBus hb (fun b =>
      { b with nodes := Vector.ofFn fun n => (d.kindAt n).map fun k => freshNode k (c.answeredAt n), urgent := [] }) s)

/-- R126: the node table refreshed. -/
def refreshTable (hb : Headblock) (d : Descriptor) (c : Census) (s : State) : State :=
  clearMismatches (listedPair hb d)
    (updateBus hb (Bus.updateNodes fun n old => (d.kindAt n).map fun k => match old with
      | some r => refreshNode k (c.answeredAt n) r
      | none => freshNode k (c.answeredAt n)) s)

/-- R118, R137: the supply is switched off: the table emptied, the frame in flight to be discarded, the pairs
confirmed off. -/
def supplyOff (hb : Headblock) (s : State) : State :=
  supplyOffPairs hb (updateBus hb (fun b =>
    { b with nodes := Vector.ofFn fun _ => none, urgent := []
             flight := b.flight.map fun f => { f with discard := true } }) s)

/-- R148: a diagnostic transfer ends: DIAG_RESULT is queued and the transfer removed. -/
def endTransfer (hb : Headblock) (status : TransferEnd) (s : State) : State :=
  match (s.bus.get hb).transfer with
  | none => s
  | some t => post (.diagResult hb t status) (updateBus hb (fun b => { b with transfer := none }) s)

/-! ## Changes of attachment state (R128) -/

/-- R128: ATTACH_STATE as the headblock stands. -/
def State.attachNotice (s : State) (hb : Headblock) (left : Option AttachState) : NoticeBody :=
  .attachState hb (s.attachState hb) left ((s.attach.get hb).descriptor.map Descriptor.serial)

/-- R110: the choice is made whether the leave of bypass is taken before the composition; it is counted. -/
def choose (s : State) : State := { s with choices := s.choices + 1 }

/-- R12, R101: the composition that follows a change of attachment state, and the end of a set operation on a departure
from ARMED (log 12). -/
def composeOnAttach (hb : Headblock) (departed : Bool) (s : State) : State :=
  if departed then abortSetOp hb .attachLost (compose s) else compose s

/-- R110, second case: the test spreader leaves ARMED. The composition and the leave of bypass both act on a running
order, and either may be taken first, as the free choice has it (log 14); with no order running the composition comes
first (log 12). -/
def composeAndLeave (hb : Headblock) (s : State) : State :=
  if s.order.runs then
    if Config.leaveFirst s.choices then composeOnAttach hb true (leaveBypass .attach (choose s))
    else leaveBypass .attach (composeOnAttach hb true (choose s))
  else leaveBypass .attach (composeOnAttach hb true s)

/-- R128: the change is handed on: setting, members and composition, set operation, bypass, transfer. -/
def handOnAttach (hb : Headblock) (left : AttachState) (s : State) : State :=
  let entered := s.attachState hb
  let departed := left == .armed && entered != .armed
  let s := rederiveHead hb (settingOnAttach hb left entered s)
  let s := if departed && s.bypass == some hb then composeAndLeave hb s else composeOnAttach hb departed s
  if entered.inService then s else endTransfer hb .aborted s

/-- A change of attachment state: the manager's record rewritten, ATTACH_STATE and the further notices given, the
supply switched off where the state asks for it, and the change handed on. -/
def changeAttach (hb : Headblock) (f : Attach → Attach) (further : List NoticeBody) (s : State) : State :=
  let left := s.attachState hb
  let s := updateAttach hb f s
  let s := postAll (s.attachNotice hb (some left) :: further) s
  let s := if left.supplyOn && !(s.attachState hb).supplyOn then supplyOff hb s else s
  handOnAttach hb left s

/-- R114: POWERING with a fresh power-up delay. -/
def enterPowering (hb : Headblock) (s : State) : State :=
  changeAttach hb (fun a => { a with state := .powering, delayEnd := some (s.time + s.timing.powerUp) }) [] s

/-- RELEASING with a fresh power-down delay; descriptor, profile and census record are discarded (R118, R123). -/
def enterReleasing (hb : Headblock) (next : Next) (s : State) : State :=
  changeAttach hb (fun a =>
    { a with state := .releasing next, descriptor := none, profile := none, census := none
             delayEnd := some (s.time + s.timing.powerDown) }) [] s

/-- ATTACH_FAULT with its cause (R116, R126). -/
def enterFault (hb : Headblock) (cause : AttachCause) (s : State) : State :=
  changeAttach hb (fun a =>
    { a with state := .attachFault cause, descriptor := none, profile := none, census := none }) [] s

/-- R115: the record of a census that starts. -/
def Census.start : Census := ⟨Vector.ofFn fun _ => none, 0, 1⟩

/-- The state that a prior names. -/
def Prior.state : Prior → AttachState
  | .identified => .identified
  | .armed => .armed

/-- The prior that a state in service gives. -/
def AttachState.prior? : AttachState → Option Prior
  | .identified => some .identified
  | .armed => some .armed
  | .empty | .powering | .census | .linkDown _ | .reidentify _ | .attachFault _ | .releasing _ | .off => none

/-! ## The plug (R112, R114, R118, R119) -/

/-- PLUG_RAW_CHANGE: the debounce starts, or is cancelled by the return of the raw input. -/
def plugRaw (hb : Headblock) (present : Bool) (s : State) : State :=
  let a := s.attach.get hb
  if a.plugRaw = present then s
  else updateAttach hb (fun a =>
    { a with plugRaw := present
             plugTimer := if present = a.plug then none else some (s.time + Config.plugDebounce) }) s

/-- The recognized plug level takes the raw level (R112). -/
def recognizePlug (hb : Headblock) (s : State) : State :=
  updateAttach hb (fun a => { a with plug := a.plugRaw, plugTimer := none }) s

/-- R114: a plug insertion by its attachment state. -/
def insertPlug (hb : Headblock) (s : State) : State :=
  if s.attachState hb = .empty then enterPowering hb s else s

/-- R118: a plug removal by its attachment state. -/
def removePlug (hb : Headblock) (s : State) : State :=
  match s.attachState hb with
  | .empty | .releasing .empty => s
  | .releasing _ => changeAttach hb (fun a => { a with state := .releasing .empty }) [] s
  | .powering | .census | .identified | .armed | .linkDown _ | .reidentify _ | .attachFault _ | .off =>
    enterReleasing hb .empty s

/-- PLUG_INSERTION, PLUG_REMOVAL: the raw level has held for 100 ms. -/
def plugSettled (hb : Headblock) (present : Bool) (s : State) : State :=
  let a := s.attach.get hb
  match a.plugTimer with
  | none => s
  | some due =>
    if a.plugRaw = present ∧ a.plug ≠ present then
      let s := recognizePlug hb (advanceTo due s)
      if present then insertPlug hb s else removePlug hb s
    else s

/-- POWER_UP_DELAY_END (R114). -/
def powerUpEnd (hb : Headblock) (s : State) : State :=
  match s.attachState hb, (s.attach.get hb).delayEnd with
  | .powering, some due =>
    changeAttach hb (fun a => { a with state := .census, census := some .start, delayEnd := none }) []
      (advanceTo due s)
  | _, _ => s

/-- R119: the state that follows RELEASING. -/
def afterRelease (hb : Headblock) (next : Next) (s : State) : State :=
  match next with
  | .off => changeAttach hb (fun a => { a with state := .off, delayEnd := none }) [] s
  | .powering => enterPowering hb s
  | .empty =>
    let s := changeAttach hb (fun a => { a with state := .empty, delayEnd := none }) [] s
    if (s.attach.get hb).plug then insertPlug hb s else s

/-- POWER_DOWN_DELAY_END (R119). -/
def powerDownEnd (hb : Headblock) (s : State) : State :=
  match s.attachState hb, (s.attach.get hb).delayEnd with
  | .releasing next, some due => afterRelease hb next (advanceTo due s)
  | _, _ => s

/-! ## The census (R115, R116, R126, R127) -/

/-- The answer of an address is of a kind. -/
def Census.answered (c : Census) (n : NodeIx) (kind : NodeKind) : Bool := (c.answers.get n).any fun a => a.kind == kind

/-- Table 7-3, check 3: the listed nodes are exactly those that answered, each with the kind it answered. -/
def Census.matches (c : Census) (d : Descriptor) : Bool :=
  (List.finRange 7).all fun n => d.kindAt n == (c.answers.get n).map Answer.kind

/-- Table 7-3: the judgement of a complete census. -/
def Census.judge (c : Census) : Except AttachCause Descriptor :=
  if !c.answered bodyNode .body then .error .noBody
  else if !((List.finRange 4).all fun k => c.answered (k.castLE (by decide)) .corner) then .error .cornerMissing
  else match (c.answers.get bodyNode).bind fun a => descriptorOf? a.descriptor with
    | none => .error .censusMismatch
    | some d => if c.matches d then .ok d else .error .censusMismatch

/-- R116: a census in CENSUS passes. -/
def identify (hb : Headblock) (d : Descriptor) (c : Census) (s : State) : State :=
  changeAttach hb (fun a => { a with state := .identified, descriptor := some d, census := none }) []
    (fillTable hb d c s)

/-- R126: a census in REIDENTIFY finds the serial that is held. -/
def sameSpreader (hb : Headblock) (prior : Prior) (d : Descriptor) (c : Census) (s : State) : State :=
  changeAttach hb (fun a => { a with state := prior.state, descriptor := some d, census := none }) []
    (refreshTable hb d c s)

/-- R127: a census in REIDENTIFY finds another serial. -/
def otherSpreader (hb : Headblock) (old d : Descriptor) (c : Census) (s : State) : State :=
  changeAttach hb (fun a => { a with state := .identified, descriptor := some d, profile := none, census := none })
    [.spreaderChanged hb old.serial old.model d.serial d.model]
    (clearLatches (fun p => p.hb == hb) (fillTable hb d c s))

/-- R116, R126, R127: the census has ended with a judgement. -/
def endCensus (hb : Headblock) (c : Census) (verdict : Except AttachCause Descriptor) (s : State) : State :=
  match verdict with
  | .error cause => enterFault hb cause s
  | .ok d =>
    match s.attachState hb, (s.attach.get hb).descriptor with
    | .reidentify prior, some old =>
      if old.serial = d.serial then sameSpreader hb prior d c s else otherSpreader hb old d c s
    | _, _ => identify hb d c s

/-- The census record written back. -/
def keepCensus (hb : Headblock) (c : Census) (s : State) : State :=
  updateAttach hb (fun a => { a with census := some c }) s

/-- R115: the census moves on to the next address, or is complete. -/
def censusOn (hb : Headblock) (c : Census) (s : State) : State :=
  if h : c.node.val + 1 < 7 then keepCensus hb { c with node := ⟨c.node.val + 1, h⟩, attempt := 1 } s
  else endCensus hb c c.judge s

/-- R115: an answer entered for the address being asked. -/
def Census.enter (c : Census) (answer : Answer) : Census :=
  { c with answers := Vector.ofFn fun n => if n = c.node then some answer else c.answers.get n }

/-- R115: the outcome of a census frame. -/
def censusOutcome (hb : Headblock) (c : Census) (outcome : FrameOutcome) (s : State) : State :=
  match outcome with
  | .good (.identify kind descriptor) => censusOn hb (c.enter ⟨kind, s.time, descriptor⟩) s
  | .clash => endCensus hb c (.error .clash) s
  | .good (.exchange _ _ _) | .good (.diag _) | .silent | .corrupt =>
    if c.attempt < 3 then keepCensus hb { c with attempt := c.attempt + 1 } s else censusOn hb c s

/-- R136: the outcome of an IDENTIFY frame goes to the attachment manager: a census frame's or the probe's (R126). -/
def identifyOutcome (hb : Headblock) (outcome : FrameOutcome) (s : State) : State :=
  match s.attachState hb, (s.attach.get hb).census with
  | .census, some c | .reidentify _, some c => censusOutcome hb c outcome s
  | .linkDown prior, _ =>
    if outcome.isGood then
      changeAttach hb (fun a => { a with state := .reidentify prior, census := some .start }) [] s
    else s
  | _, _ => s

/-! ## Link down (R125) -/

/-- Every record of the table that is not ABSENT is LOST, and there is one. -/
def Bus.allLost (b : Bus) : Bool :=
  (List.finRange 7).any (fun n => (b.node n).isSome) &&
    (List.finRange 7).all fun n => (b.node n).all fun r => r.link == .lost

/-- R125: the last node of a bus in service goes LOST. -/
def checkLinkDown (hb : Headblock) (s : State) : State :=
  match (s.attachState hb).prior? with
  | none => s
  | some prior =>
    if (s.bus.get hb).allLost then
      changeAttach hb (fun a => { a with state := .linkDown prior }) []
        (updateBus hb (fun b => { b with lastProbe := none }) s)
    else s

/-! ## Requests (R117, R120 to R124) -/

/-- The expected serial is absent or is the descriptor's (R120, R121). -/
def State.serialFits (s : State) (hb : Headblock) (p : Profile) : Bool :=
  p.expected.all fun serial => (s.attach.get hb).descriptor.any fun d => d.serial == serial

/-- Table 7-6, checks 2 to 4. -/
def State.profileRefusal (s : State) (hb : Headblock) (p : Profile) : Option Status :=
  if !(s.attachState hb).inService then some .state
  else if s.attachState hb == .armed && s.involved hb then some .busy
  else if s.attachState hb == .armed && !s.serialFits hb p then some .profileMismatch
  else none

/-- LOAD_PROFILE (R120). -/
def answerLoadProfile (headblock : Byte) (profile : Option Profile) (s : State) : Response :=
  match headblockOf? headblock, profile with
  | some hb, some p =>
    match s.profileRefusal hb p with
    | some status => refuse status s
    | none => answerOk (updateAttach hb (fun a => { a with profile := some p }) s)
  | _, _ => refuse .range s

/-- R121: the checks of ARM after RANGE. -/
def State.armRefusal (s : State) (hb : Headblock) : Option Status :=
  if s.attachState hb != .identified then some .state
  else match (s.attach.get hb).profile with
    | none => some .state
    | some p => if s.serialFits hb p then none else some .profileMismatch

/-- R71, R121: an accepted ARM. -/
def armHead (hb : Headblock) (s : State) : State :=
  changeAttach hb (fun a => { a with state := .armed }) [] (clearLatches (fun p => p.hb == hb) s)

/-- ARM (R121). -/
def answerArm (headblock : Byte) (s : State) : Response :=
  match headblockOf? headblock with
  | none => refuse .range s
  | some hb =>
    match s.armRefusal hb with
    | some status => refuse status s
    | none => answerOk (armHead hb s)

/-- R122: the conditions under which an ARMED spreader may leave ARMED by request. -/
def State.disarmRefusal (s : State) (hb : Headblock) : Option Status :=
  if s.involved hb then some .busy else if !s.allUnlocked hb then some .locked else none

/-- DISARM (R122). -/
def answerDisarm (headblock : Byte) (s : State) : Response :=
  match headblockOf? headblock with
  | none => refuse .range s
  | some hb =>
    if s.attachState hb != .armed then refuse .state s
    else match s.disarmRefusal hb with
      | some status => refuse status s
      | none => answerOk (changeAttach hb (fun a => { a with state := .identified }) [] s)

/-- R123: the refusal of RELEASE. -/
def State.releaseRefusal (s : State) (hb : Headblock) : Option Status :=
  match s.attachState hb with
  | .empty | .off | .releasing _ => some .state
  | .armed => s.disarmRefusal hb
  | .powering | .census | .identified | .linkDown _ | .reidentify _ | .attachFault _ => none

/-- RELEASE (R123). -/
def answerRelease (headblock : Byte) (s : State) : Response :=
  match headblockOf? headblock with
  | none => refuse .range s
  | some hb =>
    match s.releaseRefusal hb with
    | some status => refuse status s
    | none => answerOk (enterReleasing hb (if (s.attach.get hb).plug then .off else .empty) s)

/-- ATTACH (R124). -/
def answerAttach (headblock : Byte) (s : State) : Response :=
  match headblockOf? headblock with
  | none => refuse .range s
  | some hb =>
    match s.attachState hb with
    | .off => answerOk (enterPowering hb s)
    | .attachFault _ => answerOk (enterReleasing hb .powering s)
    | .empty | .powering | .census | .identified | .armed | .linkDown _ | .reidentify _ | .releasing _ =>
      refuse .state s

/-- R117: every field of a descriptor (log 11). -/
def Descriptor.bytes (d : Descriptor) : List Byte :=
  be32 d.serial ++ be16 d.model ++ [d.revision, flag d.twin] ++
    counted (([Length.l20, .l40, .l45].filter d.supports).map fun l => [l.code]) ++
    counted (d.nodes.map fun (n, k) => [nodeAddress n, k.code])

/-- READ_DESCRIPTOR (R117). -/
def answerReadDescriptor (headblock : Byte) (s : State) : Response :=
  match headblockOf? headblock with
  | none => refuse .range s
  | some hb =>
    match (s.attach.get hb).descriptor with
    | none => refuse .state s
    | some d => ⟨.ok, d.bytes ++ (s.attachState hb).bytes ++ [flag (s.attach.get hb).profile.isSome], s⟩

end Sys2Proof.Machine
end

