-- ==== Sys2Proof/Machine/TripHold.lean ====
section
/-! DEFINITION. The Trip Hold Unit (spec/04): the chain filter, trip edges, RESUME. -/

namespace Sys2Proof.Machine

/-! ## The chain filter (R76, R77) -/

/-- TRIP_CHAIN_RAW_CHANGE: an opening or re-arm time starts, or is cancelled by the return of the raw level. -/
def chainRaw (closed : Bool) (s : State) : State :=
  if s.trip.chainRawClosed = closed then s
  else { s with trip := { s.trip with
    chainRawClosed := closed
    chainTimer :=
      if closed = s.trip.chainClosed then none
      else some (s.time + if closed then Config.rearmTime else Config.openingTime) } }

/-- The recognized chain level takes the raw level. -/
def recognizeChain (s : State) : State :=
  { s with trip := { s.trip with chainClosed := s.trip.chainRawClosed, chainTimer := none } }

/-- TRIP_CHAIN_REARM (R77). -/
def chainRearm (s : State) : State :=
  match s.trip.chainTimer with
  | none => s
  | some due =>
    if s.trip.chainRawClosed ∧ ¬ s.trip.chainClosed then recognizeChain (advanceTo due s) else s

/-! ## A trip edge taken in CLEAR (R79 to R81) -/

/-- R80: the hold record that a trip edge leaves. -/
def State.holdAtTrip (s : State) : Option HoldRec :=
  match s.order with
  | .active _ head members _ =>
    some { kind := head.kind, origin := head.origin, members := members.map OrderMember.member
           turningBegun := head.turningBegun, bypassBegun := s.bypass.isSome }
  | .idle | .proposed _ _ | .suspended _ | .faultHeld _ _ _ => s.trip.hold

/-- R79 step 2: what a trip edge does to the order record. -/
def tripOrder (s : State) : State :=
  match s.order with
  | .proposed head _ => endToIdle head .trip [] s
  | .active _ head _ _ => post (.orderStage .suspended head) { letGo s.orderPair s with order := .suspended head }
  | .idle | .suspended _ | .faultHeld _ _ _ => s

/-- R79 step 4 with its notice: HOLDING is entered, the hold record filled. -/
def enterHolding (cause : HoldCause) (hold : Option HoldRec) (s : State) : State :=
  let s := { s with trip := { s.trip with state := .holding cause, pending := false, hold := hold } }
  post s.holdStateNotice s

/-- R79, R83, R86: the report made at once when the awaiting-off set is empty as built. -/
def reportIfEmpty (s : State) : State := if s.awaitingOff.isEmpty then reportConfirmedOff s else s

/-- R79: a trip edge in CLEAR, its notices in the order of R81; PERMIT follows with `finish`. -/
def takeTrip (s : State) : State :=
  let t := tripOrder (enterHolding .trip s.holdAtTrip (claimForceOff s))
  let t := abortSetOp .b .trip (abortSetOp .a .trip t)
  reportIfEmpty (postGroup s (evalGroup (leaveBypass .trip t)))

/-- R84: a trip edge in HOLDING or HELD. -/
def pendTrip (s : State) : State :=
  if s.trip.pending then s
  else
    let s := { s with trip := { s.trip with pending := true } }
    post s.holdStateNotice s

/-- A trip edge by the trip unit's state. -/
def tripByState (s : State) : State :=
  if s.trip.state = .clear then takeTrip s else pendTrip s

/-- TRIP_EDGE (R76): the raw chain has been open for 5 ms. -/
def tripEdge (s : State) : State :=
  match s.trip.chainTimer with
  | none => s
  | some due =>
    if ¬ s.trip.chainRawClosed ∧ s.trip.chainClosed then tripByState (recognizeChain (advanceTo due s)) else s

/-! ## RESUME (R85 to R87) -/

/-- R86: the hold repeated. -/
def retrip (s : State) : State := reportIfEmpty (enterHolding .trip s.trip.hold (claimForceOff s))

/-- R87, steps 1 and 2: the force-off withdrawn, CLEAR entered, HOLD_STATE queued (log 13). -/
def releaseHold (s : State) : State :=
  let s := { s with trip := { s.trip with state := .clear, pending := false }, awaitingOff := [] }
  post s.holdStateNotice s

/-- R87, step 3: the order of the hold record re-enters CHECKED. -/
def resumeOrder (s : State) : State :=
  match s.trip.hold with
  | none => s
  | some h =>
    checkOrder ⟨h.kind, h.origin, h.turningBegun⟩ (some h.members) { s with trip := { s.trip with hold := none } }

/-- RESUME (R85, Table 4-3). -/
def answerResume (s : State) : Response :=
  match s.trip.state with
  | .clear | .holding _ => refuse .state s
  | .held _ =>
    if !s.trip.chainClosed then refuse .tripOpen s
    else if s.trip.pending then ⟨.retrip, [], retrip s⟩
    else answerOk (resumeOrder (releaseHold s))

end Sys2Proof.Machine
end

