-- ==== Sys2Proof/Machine/Bus.lean ====
section
/-! DEFINITION. The Spreader Bus Controllers (spec/08): frames and their outcomes, the arbiter, the node events. -/

namespace Sys2Proof.Machine

/-! ## The frame in flight (R72, R132, R135) -/

/-- A period code in ms (Table 8-2). -/
def periodOf (code : Byte) : Nat := code.toNat * 5

/-- R72: a frame that carried a period of `ms` is the later one. -/
def OnFrame.stretch (ms : Nat) (f : OnFrame) : OnFrame := { f with longest := max f.longest ms }

/-- R72: the record of the last frame that carried a pair on, after a frame that ended `now`. -/
def onFrameAfter (carriedOn : Bool) (now ms : Nat) (old : Option OnFrame) : Option OnFrame :=
  if carriedOn then some ⟨now, ms⟩ else old.map (OnFrame.stretch ms)

/-- R72: a node's frame times after the end of an EXCHANGE frame to it. -/
def NodeRec.frameEnded (now : Nat) (image period : Byte) (r : NodeRec) : NodeRec :=
  { r with
    goodFrame := r.goodFrame.map (OnFrame.stretch (periodOf period))
    onFrameLow := onFrameAfter (image.getLsbD 0 || image.getLsbD 1) now (periodOf period) r.onFrameLow
    onFrameHigh := onFrameAfter (image.getLsbD 2 || image.getLsbD 3) now (periodOf period) r.onFrameHigh }

/-- MASTER_FRAME_END: the reply window opens (R135). -/
def masterFrameEnd (hb : Headblock) (s : State) : State :=
  match (s.bus.get hb).flight with
  | none => s
  | some f =>
    if f.phase = .sending then
      let s := updateBus hb (fun b => { b with flight := some { f with phase := .window, endTime := s.time } }) s
      match f.kind with
      | .exchange image period => updateBus hb (Bus.updateNode f.node (NodeRec.frameEnded s.time image period)) s
      | .identify | .diagRead _ => s
    else s

/-- HOLD_OFF: the window is extended once; a second marker is noted (R135, log 17). -/
def holdOff (hb : Headblock) (overlap : Bool) (s : State) : State :=
  match (s.bus.get hb).flight with
  | none => s
  | some f =>
    match f.phase with
    | .sending => s
    | .window =>
      updateBus hb (fun b => { b with flight := some { f with phase := .extended, overlap := f.overlap || overlap } }) s
    | .extended =>
      updateBus hb (fun b =>
        { b with flight := some { f with secondHoldOff := true, overlap := f.overlap || overlap } }) s

/-! ## Outcomes in the node record (R138, R139) -/

/-- R138: a GOOD outcome. -/
def NodeRec.good (now : Nat) (r : NodeRec) : NodeRec := { r with link := .online, misses := 0, lastGood := now }

/-- R138: an outcome other than GOOD. -/
def NodeRec.bad (r : NodeRec) : NodeRec :=
  if r.misses.val < 2 then { r with misses := r.misses + 1 }
  else { r with misses := 3, link := .lost, signalsKnown := false }

/-- R68, R138: the outcome of an EXCHANGE frame. -/
def NodeRec.exchanged (now : Nat) (f : Flight) (image period : Byte) (outcome : FrameOutcome) (r : NodeRec) : NodeRec :=
  match outcome with
  | .good (.exchange input echo status) =>
    { r.good now with
      input := some input, echo := some echo, reference := some image
      restarted := status.getLsbD 0, supplyLow := status.getLsbD 1
      goodFrame := some ⟨f.endTime, periodOf period⟩, signalsKnown := true }
  | .good (.identify _ _) | .good (.diag _) | .silent | .corrupt | .clash => { r.bad with reference := some image }

/-- R138: the outcome of a DIAG_READ frame. -/
def NodeRec.diagnosed (now : Nat) (outcome : FrameOutcome) (r : NodeRec) : NodeRec :=
  if outcome.isGood then r.good now else r.bad

/-- The reply is GOOD and carries RESTARTED. -/
def FrameOutcome.restarted : FrameOutcome → Bool
  | .good (.exchange _ _ status) => status.getLsbD 0
  | .good (.identify _ _) | .good (.diag _) | .silent | .corrupt | .clash => false

/-- R139: the NODE_STATE of an outcome, when one of its four cases applies. -/
def nodeStateNotices (hb : Headblock) (n : NodeIx) (outcome : FrameOutcome) (old new : NodeRec) : List NoticeBody :=
  if new.link ≠ old.link ∨ outcome = .clash ∨ outcome.restarted ∨ new.supplyLow ≠ old.supplyLow then
    [.nodeState hb n new.kind new.link new.misses (outcome == .clash) outcome.restarted new.supplyLow]
  else []

/-- R148: the diagnostic transfer of a node that has gone LOST ends ABORTED. -/
def abortTransferOf (hb : Headblock) (n : NodeIx) (s : State) : State :=
  if (s.bus.get hb).transfer.any fun t => t.node == n then endTransfer hb .aborted s else s

/-- R138: the hand-on of a node's change to LOST. Where the outcome is an EXCHANGE's, no rule places the DIAG_RESULT of the
node's transfer among the notices: after the order's and the setting's, before ATTACH_STATE, is the model's choice
(log 33). -/
def nodeLost (hb : Headblock) (n : NodeIx) (s : State) : State :=
  checkLinkDown hb (abortTransferOf hb n
    (settingNodeLost hb n (orderNodeLost hb n (rederiveNode hb n (confirmLost hb n s)))))

/-- R138: a node's change between ONLINE and LOST is handed on. -/
def linkChanged (hb : Headblock) (n : NodeIx) (old : NodeLink) (s : State) : State :=
  match s.node hb n with
  | none => s
  | some r =>
    if r.link = old then s
    else if r.link = .lost then nodeLost hb n s
    else rederiveNode hb n s

/-! ## Outcomes handed on (R136) -/

/-- R136: a GOOD exchange reply, already in the node's record, handed to the blocks in turn; `old` is the state before
the reply. -/
def goodExchange (hb : Headblock) (n : NodeIx) (input : Byte) (old s : State) : State :=
  let latching := s.latching hb n
  settingOnReply hb n latching input
    (orderOnReply hb n latching old (rederiveNode hb n (coilsOnReply hb n s)))

/-- R136: the outcome of an EXCHANGE frame. -/
def exchangeOutcome (hb : Headblock) (f : Flight) (image period : Byte) (outcome : FrameOutcome) (s : State) : State :=
  match s.node hb f.node with
  | none => s
  | some old =>
    let new := old.exchanged s.time f image period outcome
    let t := postAll (nodeStateNotices hb f.node outcome old new)
      (updateBus hb (Bus.updateNode f.node fun _ => new) s)
    match outcome with
    | .good (.exchange input _ _) => goodExchange hb f.node input s t
    | .good (.identify _ _) | .good (.diag _) | .silent | .corrupt | .clash => linkChanged hb f.node old.link t

/-- The transfer rewritten. -/
def setTransfer (hb : Headblock) (t : Transfer) (s : State) : State :=
  updateBus hb (fun b => { b with transfer := some t }) s

/-- R147: a block received. -/
def Transfer.receive (t : Transfer) (data : List Byte) : Transfer :=
  { t with data := t.data ++ data, received := t.received + 1, attempt := 1 }

/-- R147: the outcome of a DIAG_READ frame acts on its transfer. -/
def transferOutcome (hb : Headblock) (outcome : FrameOutcome) (s : State) : State :=
  match (s.bus.get hb).transfer with
  | none => s
  | some t =>
    match outcome with
    | .good (.diag data) =>
      let t := t.receive data
      if data.length < 24 then endTransfer hb .short (setTransfer hb t s)
      else if t.received = t.count then endTransfer hb .complete (setTransfer hb t s)
      else setTransfer hb { t with next := t.next + 1 } s
    | .good (.exchange _ _ _) | .good (.identify _ _) | .silent | .corrupt | .clash =>
      if t.attempt < 3 then setTransfer hb { t with attempt := t.attempt + 1 } s else endTransfer hb .failed s

/-- R136: the outcome of a DIAG_READ frame. DIAG_RESULT stands before NODE_STATE, also when the outcome makes the
node LOST and the transfer ends by that (R148). -/
def diagOutcome (hb : Headblock) (f : Flight) (outcome : FrameOutcome) (s : State) : State :=
  match s.node hb f.node with
  | none => s
  | some old =>
    let new := old.diagnosed s.time outcome
    let t := updateBus hb (Bus.updateNode f.node fun _ => new) s
    let t := if f.orphan then t else transferOutcome hb outcome t
    let t := if new.link = .lost ∧ old.link ≠ .lost then abortTransferOf hb f.node t else t
    linkChanged hb f.node old.link (postAll (nodeStateNotices hb f.node outcome old new) t)

/-- R132, R136: the outcome of the frame in flight is taken, and the bus is free. -/
def takeOutcome (hb : Headblock) (f : Flight) (outcome : FrameOutcome) (s : State) : State :=
  let s := updateBus hb (fun b => { b with flight := none }) s
  if f.discard then s
  else match f.kind with
    | .exchange image period => exchangeOutcome hb f image period outcome s
    | .identify => identifyOutcome hb outcome s
    | .diagRead _ => diagOutcome hb f outcome s

/-- R135: an outcome is taken while the reply window is open. -/
def onWindow (hb : Headblock) (judge : Flight → FrameOutcome) (s : State) : State :=
  match (s.bus.get hb).flight with
  | none => s
  | some f => if f.phase = .sending then s else takeOutcome hb f (judge f) s

/-! ## The arbiter (R140 to R143) -/

/-- What the arbiter begins. -/
inductive FrameChoice
  | exchange (n : NodeIx)
  | identify (n : NodeIx)
  | diag (t : Transfer) (rowTwo : Bool)
  deriving DecidableEq, Repr

/-- An exchange period or more has passed since a moment, or there is no such moment (R140, R142, R143). -/
def State.periodSince (s : State) (t : Option Nat) : Bool := t.all fun t => decide (t + s.timing.period ≤ s.time)

/-- R142: a node is due. -/
def State.nodeIsDue (s : State) (hb : Headblock) (n : NodeIx) : Bool :=
  match s.node hb n with
  | some r => s.periodSince r.lastBegun
  | none => false

/-- The due node with the lowest address. -/
def State.firstDue (s : State) (hb : Headblock) : Option NodeIx := (List.finRange 7).find? (s.nodeIsDue hb)

/-- Table 8-7. -/
def State.choiceInService (s : State) (hb : Headblock) : Option FrameChoice :=
  let b := s.bus.get hb
  match b.urgent.find? (fun n => (b.node n).isSome), b.transfer, s.firstDue hb with
  | some n, _, _ => some (.exchange n)
  | none, some t, some n =>
    if s.timing.share = .shared ∧ s.periodSince t.rowTwo then some (.diag t true) else some (.exchange n)
  | none, none, some n => some (.exchange n)
  | none, some t, none => some (.diag t false)
  | none, none, none => none

/-- R140, Table 8-6. -/
def State.choice (s : State) (hb : Headblock) : Option FrameChoice :=
  match s.attachState hb with
  | .census | .reidentify _ => (s.attach.get hb).census.map fun c => .identify c.node
  | .linkDown _ => if s.periodSince (s.bus.get hb).lastProbe then some (.identify bodyNode) else none
  | .identified | .armed => s.choiceInService hb
  | .empty | .powering | .attachFault _ | .releasing _ | .off => none

/-- A master frame that begins. -/
def newFlight (n : NodeIx) (kind : FrameKind) : Flight :=
  { node := n, kind := kind, phase := .sending, endTime := 0, overlap := false, secondHoldOff := false
    discard := false, orphan := false }

/-- R143: the image an EXCHANGE frame carries: all off outside ARMED. -/
def State.carriedImage (s : State) (hb : Headblock) (n : NodeIx) : Byte :=
  if s.attachState hb = .armed then ((s.node hb n).map NodeRec.output).getD 0 else 0

/-- R141, R142: an EXCHANGE frame begins. -/
def beginExchange (hb : Headblock) (n : NodeIx) (s : State) : State :=
  updateBus hb (fun b =>
    { b.updateNode n (fun r => { r with lastBegun := some s.time }) with
      urgent := b.urgent.filter fun m => m != n
      flight := some (newFlight n (.exchange (s.carriedImage hb n) (byte (s.timing.period / 5)))) }) s

/-- R140: an IDENTIFY frame begins; in LINK_DOWN it is the probe. -/
def beginIdentify (hb : Headblock) (n : NodeIx) (s : State) : State :=
  updateBus hb (fun b =>
    { b with flight := some (newFlight n .identify)
             lastProbe := match s.attachState hb with
               | .linkDown _ => some s.time
               | _ => b.lastProbe }) s

/-- R143: a DIAG_READ frame begins, at row 2 or at row 4. -/
def beginDiag (hb : Headblock) (t : Transfer) (rowTwo : Bool) (s : State) : State :=
  updateBus hb (fun b =>
    { b with flight := some (newFlight t.node (.diagRead (byte t.next)))
             transfer := some { t with rowTwo := if rowTwo then some s.time else t.rowTwo } }) s

/-- R140: the arbiter, while the bus is free. -/
def arbitrate (hb : Headblock) (s : State) : State :=
  match (s.bus.get hb).flight, s.choice hb with
  | none, some (.exchange n) => beginExchange hb n s
  | none, some (.identify n) => beginIdentify hb n s
  | none, some (.diag t rowTwo) => beginDiag hb t rowTwo s
  | _, _ => s

/-! ## Timed events of the bus -/

/-- NODE_DUE: the moment at which a node becomes due (R142). -/
def nodeDue (hb : Headblock) (n : NodeIx) (s : State) : State :=
  match (s.node hb n).bind NodeRec.lastBegun with
  | some t => advanceTo (t + s.timing.period) s
  | none => s

/-- PROBE_DUE: one exchange period has passed since the previous probe began (R140). -/
def probeDue (hb : Headblock) (s : State) : State :=
  match s.attachState hb, (s.bus.get hb).lastProbe with
  | .linkDown _, some t => advanceTo (t + s.timing.period) s
  | _, _ => s

/-- The times of R72 that a LOST node's awaited pairs still wait for; a frame still being sent has given none yet. -/
def State.lostOffTimes (s : State) (hb : Headblock) (n : NodeIx) : List Nat :=
  match s.node hb n with
  | some r =>
    if r.link = .lost then
      ((nodePairs hb n).filter fun p => s.awaitingOff.contains p && !s.stillSending p).map r.offTime
    else []
  | none => []

/-- LOST_NODE_OFF_TIME: the earliest of those times expires, and the pairs whose time it is are confirmed off; the other
pair's time is a later command (log 23). -/
def lostNodeOffTime (hb : Headblock) (n : NodeIx) (s : State) : State :=
  match s.lostOffTimes hb n with
  | [] => s
  | due :: dues => confirmLost hb n (advanceTo (dues.foldl min due) s)

/-! ## Requests (R145, R146) -/

/-- R145: a record of the node table (log 11). The images are reported as they were received, with the bits that R134 leaves
unread (log 44). -/
def nodeRecordBytes : Option NodeRec → List Byte
  | none => 0 :: optional 12 none
  | some r =>
    r.link.code :: optional 12 (some ([r.kind.code, byte r.misses.val] ++ be32 (timeWord r.lastGood) ++
      optional 1 (r.input.map ([·])) ++ optional 1 (r.echo.map ([·])) ++
      [r.output, flag r.restarted ||| (flag r.supplyLow <<< 1)]))

/-- R145: the diagnostic transfer. -/
def transferBytes : Option Transfer → List Byte
  | none => optional 6 none
  | some t =>
    optional 6 (some [nodeAddress t.node, byte t.first, byte t.count, byte t.next, byte t.attempt, byte t.received])

/-- READ_NODES (R145). -/
def answerReadNodes (headblock : Byte) (s : State) : Response :=
  match headblockOf? headblock with
  | none => refuse .range s
  | some hb =>
    let b := s.bus.get hb
    ⟨.ok, (s.attachState hb).bytes ++ [byte s.timing.period, s.timing.share.code] ++
        counted (b.urgent.map fun n => [nodeAddress n]) ++
        (List.finRange 7).flatMap (fun n => nodeRecordBytes (b.node n)) ++ transferBytes b.transfer, s⟩

/-- Table 8-8, check 1: the headblock and node named. -/
def diagTarget? (headblock address first count : Byte) : Option (Headblock × NodeIx) :=
  match headblockOf? headblock with
  | none => none
  | some hb =>
    if h : 1 ≤ address.toNat ∧ address.toNat ≤ 7 then
      if 1 ≤ count.toNat ∧ count.toNat ≤ 8 ∧ first.toNat + count.toNat ≤ 256 then
        some (hb, ⟨address.toNat - 1, by omega⟩)
      else none
    else none

/-- Table 8-8, checks 2 to 4. -/
def State.diagRefusal (s : State) (hb : Headblock) (n : NodeIx) : Option Status :=
  if !(s.attachState hb).inService then some .state
  else if !((s.node hb n).any fun r => r.link == .online) then some .state
  else if (s.bus.get hb).transfer.isSome then some .busy
  else none

/-- READ_NODE_DIAG (R146). -/
def answerReadNodeDiag (headblock address first count : Byte) (s : State) : Response :=
  match diagTarget? headblock address first count with
  | none => refuse .range s
  | some (hb, n) =>
    match s.diagRefusal hb n with
    | some status => refuse status s
    | none =>
      answerAccepted (setTransfer hb
        { node := n, first := first.toNat, count := count.toNat, next := first.toNat, attempt := 1, received := 0
          data := [], rowTwo := none } s)

end Sys2Proof.Machine
end

