-- ==== Sys2Proof/Machine/Finish.lean ====
section
/-! DEFINITION. The common end of every action: the output images (R62), the group, the permits and the lamps
(R15, R17, R20, R158), the watch signals (R178, R179), the arbiters (R140) and the transmit line (R167). -/

namespace Sys2Proof.Machine

/-! ## Output images and the urgent lists (R62, R141) -/

/-- R62: the node's output image differs from the one its pairs' commands give. -/
def State.imageChanged (s : State) (hb : Headblock) (n : NodeIx) : Bool :=
  (s.node hb n).any fun r => r.output != s.imageOf hb n

/-- R62, R141: the images of one bus are written, and each changed node is marked once, lowest address first (log 28). -/
def syncBus (hb : Headblock) (s : State) : State :=
  updateBus hb (fun b =>
    { b.updateNodes (fun n r => r.map fun r => { r with output := s.imageOf hb n }) with
      urgent := b.urgent ++ (List.finRange 7).filter fun n => s.imageChanged hb n && !b.urgent.contains n }) s

/-! ## Watches (R178, R179) -/

/-- The hits of one action, in signal code order. -/
def State.hits (s : State) : List NoticeBody := (List.finRange 103).filterMap s.hit

/-- R178, R179: every signal's change is judged, and its record follows. -/
def takeSignals (s : State) : State :=
  postAll s.hits { s with signals := Vector.ofFn fun i => (s.signals.get i).follow (s.signalValue i) }

/-! ## The transmit line (R167) -/

/-- R167: what a free line begins: the reply in hand, else the head notice. -/
def nextTx (tx : TxLine) (reply : Option Reply) (queue : List Notice) : TxLine :=
  match tx, reply, queue with
  | .idle, some _, _ => .reply
  | .idle, none, _ :: _ => .notice
  | .idle, none, [] => .idle
  | .reply, _, _ => .reply
  | .notice, _, _ => .notice

/-- R167: the line begins a frame when it is free. -/
def transmit (s : State) : State :=
  { s with link := { s.link with tx := nextTx s.link.tx s.link.reply s.notices.queue } }

/-! ## The whole -/

/-- R158: the ten lamps derived. -/
def evalLamps (s : State) : State := { s with lamps := s.lampsOf }

/-- The end of every action; `old` is the state whose group record GROUP_STATE last stood for (R17). -/
def finish (old s : State) : State :=
  transmit (arbitrate .b (arbitrate .a (takeSignals (evalLamps (evalPermits
    (postGroup old (evalGroup (syncBus .b (syncBus .a s)))))))))

end Sys2Proof.Machine
end

