-- ==== Sys2Proof/Machine/Cab.lean ====
section
/-! DEFINITION. The Cab Panel Interface (spec/09): debounce, presses, the key, the flash clock. -/

namespace Sys2Proof.Machine

/-- CAB_RAW_CHANGE: an interval starts, or is cancelled by the return of the raw level (R152, R153). -/
def cabRaw (input : CabInput) (on : Bool) (s : State) : State :=
  if (s.cabIn input).raw = on then s
  else updateCab input (fun c =>
    { c with raw := on, timer := if c.level = some on then none else some (s.time + s.timing.debounce) }) s

/-- Table 9-2: a change of a debounced level between its known values goes to the block that the table names. -/
def handOnCab (input : CabInput) (on : Bool) (s : State) : State :=
  match input, on with
  | .lockPb, true => pressOrder .lock s
  | .unlockPb, true => pressOrder .unlock s
  | .confirmPb, true => pressConfirm s
  | .bypassKey, false => leaveBypass .key s
  | .lockPb, false | .unlockPb, false | .confirmPb, false | .bypassKey, true => s
  | .gp1, _ | .gp2, _ | .gp3, _ | .gp4, _ => s

/-- The debounced level takes the raw level (R152). -/
def settleCab (input : CabInput) (s : State) : State :=
  updateCab input (fun c => { c with level := some c.raw, timer := none }) s

/-- CAB_DEBOUNCE_END (R151 to R154). -/
def cabDebounceEnd (input : CabInput) (s : State) : State :=
  let c := s.cabIn input
  match c.timer with
  | none => s
  | some due =>
    let s := settleCab input (advanceTo due s)
    if c.level = some (!c.raw) then handOnCab input c.raw s else s

/-- FLASH_CLOCK: the other half begins (R159). -/
def flashClock (s : State) : State :=
  { advanceTo s.flash.halfEnd s with
    flash := { lit := !s.flash.lit, halfEnd := s.flash.halfEnd + Config.flashHalf } }

end Sys2Proof.Machine
end

