-- ==== Sys2Proof/Machine/Restart.lean ====
section
/-! DEFINITION. The three starts (R171 to R173), each block's own table of values after a start, and the start notices. -/

namespace Sys2Proof.Machine

/-! ## Start notices (R172 step 5, R173) -/

/-- SET_END of each set operation that a WARM restart aborts (R104). -/
def abortedSetEnds (ops : PerHead (Option SetOp)) : List NoticeBody :=
  headblocks.flatMap fun hb => match ops.get hb with
    | none => []
    | some op => [.setEnd hb .restart op.target op.step.name none]

/-- R172 step 5: STARTED, HOLD_STATE, ATTACH_STATE A and B, SET_END, GROUP_STATE; PERMIT follows with `finish`. -/
def postStart (kind : StartKind) (ops : PerHead (Option SetOp)) (s : State) : State :=
  postAll ([.started kind s.msTime, s.holdStateNotice, s.attachNotice .a none, s.attachNotice .b none] ++
    abortedSetEnds ops ++ [.groupState s.mode s.group]) s

/-- R163, R172: the link after a start. -/
def Link.started : Link := { rx := .hunting, lastByte := 0, queue := [], reply := none, tx := .idle }

/-! ## Power-on (R173) -/

/-- Every block at its power-on value; the levels of the input terminals stand (log 8), and so does the count of choices
(log 42). -/
def powerOnState (s : State) : State :=
  { State.reset with
    pending := s.pending
    link := .started
    notices := ⟨[], false⟩
    cab := Vector.ofFn fun i => .reset (s.cab.get i).raw
    attach := .ofFn fun hb => .reset (s.attach.get hb).plugRaw
    trip := .reset s.trip.chainRawClosed
    choices := s.choices }

/-- No set operation is aborted by a power-on or a COLD restart (R104). -/
def noSetOps : PerHead (Option SetOp) := .ofFn fun _ => none

/-- POWER_ON (R173). -/
def powerOn (s : State) : State := postStart .powerOn noSetOps (powerOnState s)

/-! ## COLD (R172) -/

/-- R130: an attachment manager after a COLD restart; the delay is the default, taken first (log 18). -/
def Attach.cold (a : Attach) : Attach :=
  if a.state = .empty then .reset a.plugRaw
  else { Attach.reset a.plugRaw with state := .releasing .empty, delayEnd := some Timing.default.powerDown }

/-- R149: a bus controller after a COLD restart; a frame in flight goes on, its outcome to be discarded (log 29). -/
def Bus.cold (b : Bus) : Bus := { Bus.reset with flight := b.flight.map fun f => { f with discard := true } }

/-- A COLD restart takes effect. -/
def coldStart (s : State) : State :=
  postStart .cold noSetOps { powerOnState s with
    bus := .ofFn fun hb => (s.bus.get hb).cold
    attach := .ofFn fun hb => (s.attach.get hb).cold }

/-! ## WARM (R172) -/

/-- R75: a pair after a WARM restart. -/
def Pair.warm (p : Pair) : Pair := { p with command := .bothOff, mismatch := false, offMark := false }

/-- R104: a setting unit after a WARM restart. -/
def SettingUnit.warm (u : SettingUnit) : SettingUnit := ⟨if u.op.isSome then none else u.setting, 0, none⟩

/-- R75: a node whose all-off image differs from its reference image; a node without one is not marked (log 20). -/
def NodeRec.markWarm (r : NodeRec) : Bool := r.reference.any fun image => image != 0

/-- R75, R149: a bus controller after a WARM restart, its spreader in service or not. -/
def Bus.warm (inService : Bool) (b : Bus) : Bus :=
  { b.updateNodes (fun _ r => r.map fun r => { r with output := 0 }) with
    urgent := if inService then (List.finRange 7).filter fun n => (b.node n).any NodeRec.markWarm else []
    flight := b.flight.map fun f => { f with orphan := true }
    transfer := none }

/-- Every block's WARM restart action but the composition. -/
def warmState (s : State) : State :=
  { s with
    link := .started
    notices := ⟨[], false⟩
    watches := []
    flash := { lit := true, halfEnd := s.time + Config.flashHalf }
    bus := .ofFn fun hb => (s.bus.get hb).warm (s.attachState hb).inService
    permits := ⟨false, false⟩
    order := .idle
    pairs := .ofFn fun hb => Vector.ofFn fun i => ((s.pairs.get hb).get i).warm
    setting := .ofFn fun hb => (s.setting.get hb).warm
    trip := { s.trip with hold := none }
    bypass := none }

/-- A WARM restart takes effect (R24, R172). -/
def warmStart (s : State) : State :=
  postStart .warm (.ofFn fun hb => (s.setting.get hb).op) (evalGroup (compose (warmState s)))

/-- A start of the kind. -/
def start (kind : StartKind) (s : State) : State :=
  match kind with
  | .powerOn => powerOn s
  | .cold => coldStart s
  | .warm => warmStart s

end Sys2Proof.Machine
end

