-- ==== Sys2Proof/Machine/Link.lean ====
section
/-! DEFINITION. The Crane Link Controller and the Notice Unit's requests (spec/10, spec/11): the receiver, the receive
queue, the owners of the requests, the ends of replies and notices. -/

namespace Sys2Proof.Machine

/-! ## Requests of the part (R168 to R171) -/

/-- IDENTIFY_PART (R168, Table 10-4). -/
def answerIdentifyPart (s : State) : Response :=
  ⟨.ok, be16 Config.vendorCode ++ be16 Config.partCode ++
      [Config.siliconRevision, Config.linkFormatRevision, byte Config.receiveCapacity, byte Config.noticeCapacity,
        byte Config.watchCapacity, 16, 2, 7, 8, 250], s⟩

/-- ON 0, OFF 1, UNKNOWN 2; for the key BYPASS 0, NORMAL 1, UNKNOWN 2 (R151, R156, log 10). -/
def levelCode : Option Bool → Byte
  | some true => 0
  | some false => 1
  | none => 2

/-- R169: one headblock's part of GET_STATUS (log 11); the plug level is PRESENT 0, ABSENT 1 (R112, log 10). -/
def State.headStatus (s : State) (hb : Headblock) : List Byte :=
  let u := s.setting.get hb
  (s.attachState hb).bytes ++ [if (s.attach.get hb).plug then 0 else 1, flag (s.attachState hb).supplyOn] ++
    settingBytes u.setting ++
    optional 4 (u.op.map fun op => [op.target.length.code, op.target.mode.code, op.step.name.code, op.phase.code])

/-- The six settings in Table 10-5's order. -/
def Timing.bytes (t : Timing) : List Byte :=
  [byte t.period, t.share.code] ++ be16 (BitVec.ofNat 16 t.powerUp) ++ be16 (BitVec.ofNat 16 t.powerDown) ++
    [byte t.confirm, byte t.debounce]

/-- GET_STATUS (R169). -/
def answerGetStatus (s : State) : Response :=
  ⟨.ok, be32 s.msTime ++ [s.mode.code, s.authority.code, s.trip.state.code] ++
      optional 1 (s.trip.state.cause?.map fun c => [c.code]) ++ [flag s.trip.pending, flag s.trip.chainClosed] ++
      [flag s.bypass.isSome] ++ optional 1 (s.bypass.map fun hb => [headblockCode hb]) ++
      s.permitsBytes ++ [s.group.state.code, s.group.summary.code, s.order.stage.code] ++
      headblocks.flatMap s.headStatus ++
      ([CabInput.bypassKey, .gp1, .gp2, .gp3, .gp4].map fun i => levelCode (s.cabIn i).level) ++
      s.timing.bytes ++ [flag s.notices.overrun], s⟩

/-- SET_TIMING (R170). -/
def answerSetTiming (timing : Option Timing) (s : State) : Response :=
  match timing with
  | none => refuse .range s
  | some t =>
    if s.order.isFaultHeld then refuse .held s
    else if s.order != .idle || s.setOpRuns then refuse .busy s
    else answerOk { s with timing := t }

/-- RESTART (R171): the reply; the restart takes effect when it has been sent. -/
def answerRestart (kind : Byte) (s : State) : Response :=
  match restartKindOf? kind with
  | none => refuse .range s
  | some _ => answerOk s

/-! ## Requests of the Notice Unit (R177) -/

/-- R177: the entries as an accepted request replies with them. -/
def watchBytes (watches : List Watch) : List Byte := counted (watches.map fun w => [byte w.signal, w.edge.code])

/-- OK with the entries as they stand after the request. -/
def answerWatches (watches : List Watch) (s : State) : Response := ⟨.ok, watchBytes watches, { s with watches := watches }⟩

/-- WATCH_SET. -/
def answerWatchSet (signal edge : Byte) (s : State) : Response :=
  match edgeOf? edge with
  | none => refuse .range s
  | some e =>
    if 102 < signal.toNat then refuse .range s
    else if s.watches.any fun w => w.signal == signal.toNat then
      answerWatches (s.watches.map fun w => if w.signal = signal.toNat then { w with edge := e } else w) s
    else if s.watches.length < Config.watchCapacity then answerWatches (s.watches ++ [⟨signal.toNat, e⟩]) s
    else refuse .full s

/-- WATCH_CLEAR. -/
def answerWatchClear (signal : Byte) (s : State) : Response :=
  if signal = 255 then answerWatches [] s
  else if 102 < signal.toNat then refuse .range s
  else answerWatches (s.watches.filter fun w => w.signal != signal.toNat) s

/-- WATCH_LIST. -/
def answerWatchList (s : State) : Response := answerWatches s.watches s

/-! ## Taking a request (R165) -/

/-- R165: an owner whose request carries no body. -/
def onEmpty (body : List Byte) (owner : State → Response) (s : State) : Response :=
  match body with
  | [] => owner s
  | _ => refuse .badLength s

/-- R165: an owner whose request carries one byte. -/
def onOne (body : List Byte) (owner : Byte → State → Response) (s : State) : Response :=
  match body with
  | [b] => owner b s
  | _ => refuse .badLength s

/-- R165: WATCH_SET's two bytes. -/
def onTwo (body : List Byte) (owner : Byte → Byte → State → Response) (s : State) : Response :=
  match body with
  | [b, c] => owner b c s
  | _ => refuse .badLength s

/-- R165: SET_SPREADER's three bytes. -/
def onThree (body : List Byte) (owner : Byte → Byte → Byte → State → Response) (s : State) : Response :=
  match body with
  | [b, c, d] => owner b c d s
  | _ => refuse .badLength s

/-- R165: READ_NODE_DIAG's four bytes. -/
def onFour (body : List Byte) (owner : Byte → Byte → Byte → Byte → State → Response) (s : State) : Response :=
  match body with
  | [b, c, d, e] => owner b c d e s
  | _ => refuse .badLength s

/-- R165: SET_TIMING's eight bytes. -/
def onTiming (body : List Byte) (s : State) : Response :=
  match body with
  | [period, share, up1, up0, down1, down0, confirm, debounce] =>
    answerSetTiming (timingOf? period share (ofBe16 up1 up0) (ofBe16 down1 down0) confirm debounce) s
  | _ => refuse .badLength s

/-- R165: LOAD_PROFILE's sixteen bytes. -/
def onProfile (body : List Byte) (s : State) : Response :=
  match body with
  | [headblock, presence, s3, s2, s1, s0, lock1, lock0, unlock1, unlock0, body1, body0, turn1, turn0, settle, set] =>
    answerLoadProfile headblock (profileOf? presence (ofBe32 s3 s2 s1 s0) (ofBe16 lock1 lock0)
      (ofBe16 unlock1 unlock0) (ofBe16 body1 body0) (ofBe16 turn1 turn0) settle set) s
  | _ => refuse .badLength s

/-- R165, Table 10-6: the framing is judged (UNKNOWN_KIND, BAD_LENGTH) and the request handed to its owner. -/
def answerRequest (kind : Byte) (body : List Byte) (s : State) : Response :=
  match kind.toNat with
  | 0x01 => onEmpty body answerIdentifyPart s
  | 0x02 => onEmpty body answerGetStatus s
  | 0x03 => onTiming body s
  | 0x04 => onOne body answerRestart s
  | 0x08 => onOne body answerSetTrolleyMode s
  | 0x09 => onEmpty body answerReadMembers s
  | 0x0A => onEmpty body answerReadGroup s
  | 0x10 => onOne body answerSetAuthority s
  | 0x11 => onOne body answerOrder s
  | 0x12 => onEmpty body answerAbandon s
  | 0x13 => onEmpty body answerClearFaults s
  | 0x14 => onEmpty body answerResume s
  | 0x15 => onEmpty body answerBypassEnter s
  | 0x16 => onEmpty body answerBypassExit s
  | 0x18 => onThree body answerSetSpreader s
  | 0x20 => onProfile body s
  | 0x21 => onOne body answerArm s
  | 0x22 => onOne body answerDisarm s
  | 0x23 => onOne body answerRelease s
  | 0x24 => onOne body answerAttach s
  | 0x25 => onOne body answerReadDescriptor s
  | 0x28 => onOne body answerReadNodes s
  | 0x29 => onFour body answerReadNodeDiag s
  | 0x30 => onTwo body answerWatchSet s
  | 0x31 => onOne body answerWatchClear s
  | 0x32 => onEmpty body answerWatchList s
  | _ => refuse .unknownKind s

/-- The reply that an owner's answer makes of a request (R162, R166). -/
def Response.reply (r : Response) (q : Request) : Reply := ⟨q.tag, q.kind, r.status, r.values⟩

/-- R165: a reply stands in hand. -/
def putReply (reply : Reply) (s : State) : State := { s with link := { s.link with reply := some reply } }

/-- R165: the oldest request is taken when no reply is in hand. -/
def takeRequest (s : State) : State :=
  match s.link.reply, s.link.queue with
  | none, q :: _ =>
    let r := answerRequest q.kind q.body s
    putReply (r.reply q) r.state
  | none, [] | some _, _ => s

/-! ## Arrival (R163, R164) -/

/-- FRAME_DISCARDED. -/
def discardFrame (reason : DiscardReason) (tag kind : Option Byte) (s : State) : State :=
  post (.frameDiscarded reason tag kind) s

/-- A request joins the receive queue. -/
def enqueue (q : Request) (s : State) : State := { s with link := { s.link with queue := s.link.queue ++ [q] } }

/-- R163, R164: a frame whose CHECK matches. -/
def arrive (q : Request) (s : State) : State :=
  if q.tag = 0 then discardFrame .tag none (some q.kind) s
  else if s.link.queue.length < Config.receiveCapacity then takeRequest (enqueue q s)
  else discardFrame .overrun (some q.tag) (some q.kind) s

/-- The receiver set, and the time of the byte just received noted. -/
def setReceiver (rx : Receiver) (s : State) : State := { s with link := { s.link with rx := rx, lastByte := s.time } }

/-- R162, R163: the frame judged at its last CHECK byte; `got` runs from TAG to CHECK. -/
def judgeFrame (length : Nat) (got : List Byte) (s : State) : State :=
  let counted := got.take length
  match counted with
  | tag :: kind :: body =>
    if got.drop length = be16 (crc16 (byte length :: counted)) then arrive ⟨tag, kind, body⟩ s
    else discardFrame .check none none s
  | _ => discardFrame .check none none s

/-- R163: a received byte. -/
def receiveByte (b : Byte) (s : State) : State :=
  match s.link.rx with
  | .hunting => if b = 0xC3 then setReceiver .length s else s
  | .length =>
    if 2 ≤ b.toNat ∧ b.toNat ≤ 252 then setReceiver (.receiving b.toNat []) s
    else discardFrame .length none none (setReceiver .hunting s)
  | .receiving length got =>
    if got.length + 1 < length + 2 then setReceiver (.receiving length (got ++ [b])) s
    else judgeFrame length (got ++ [b]) (setReceiver .hunting s)

/-- R163: more than 5 ms pass between two bytes of one frame (log 30). -/
def byteGap (s : State) : State :=
  match s.link.rx with
  | .hunting => s
  | .length | .receiving _ _ =>
    discardFrame .length none none (setReceiver .hunting (advanceTo (s.link.lastByte + Config.byteGap) s))

/-! ## The ends of frames on the transmit line (R165, R167, R171) -/

/-- R165: the request in hand and its reply are removed; the line is free. -/
def dropReply (s : State) : State :=
  { s with link := { s.link with queue := s.link.queue.drop 1, reply := none, tx := .idle } }

/-- R171: the reply on the line is the OK to a RESTART: its kind, from the request's body. -/
def State.restartDue (s : State) : Option StartKind :=
  match s.link.tx, s.link.reply, s.link.queue with
  | .reply, some r, q :: _ => if r.kind = 0x04 ∧ r.status = .ok then q.body.head?.bind restartKindOf? else none
  | _, _, _ => none

/-- R165: the last byte of an ordinary reply is sent. -/
def replySent (s : State) : State := if s.link.tx = .reply then takeRequest (dropReply s) else s

/-- R167: the last byte of the head notice's frame is sent. -/
def noticeSent (s : State) : State :=
  if s.link.tx = .notice then
    { s with link := { s.link with tx := .idle }, notices := { s.notices with queue := s.notices.queue.drop 1 } }
  else s

end Sys2Proof.Machine
end

