-- ==== Sys2Proof/Machine/Requests.lean ====
section
/-! DEFINITION. The meanings of the commands that are requests of the crane link: the arrival of a frame with the TAG,
KIND and BODY given, whose CHECK matches (R163 to R165; log 1). The owner's rule is the one each docstring names; it
acts when the request is taken (`answerRequest`). -/

namespace Sys2Proof.Machine

/-- What a step of the MJ4 answers. -/
abbrev Result := Host.Outcome State Fault Refusal

/-- A request arrives, and the action ends (R164, R165). -/
def request (tag kind : Byte) (body : List Byte) (s : State) : Result :=
  .next (finish s (arrive ⟨tag, kind, body⟩ s))

/-- UNKNOWN_KIND (R165): a request whose KIND is none of Table 10-6's. -/
def execUnknownKind (tag kind : Byte) (body : List Byte) (s : State) : Result := request tag kind body s

/-- IDENTIFY_PART (R168). -/
def execIdentifyPart (tag : Byte) (s : State) : Result := request tag 0x01 [] s

/-- GET_STATUS (R169). -/
def execGetStatus (tag : Byte) (s : State) : Result := request tag 0x02 [] s

/-- SET_TIMING (R170). -/
def execSetTiming (tag : Byte) (period share : Byte) (powerUp powerDown : Half) (confirm debounce : Byte) (s : State) : Result :=
  request tag 0x03 ([period, share] ++ be16 powerUp ++ be16 powerDown ++ [confirm, debounce]) s

/-- RESTART (R171). -/
def execRestart (tag : Byte) (kind : Byte) (s : State) : Result := request tag 0x04 [kind] s

/-- SET_TROLLEY_MODE (R8, R9). -/
def execSetTrolleyMode (tag : Byte) (mode : Byte) (s : State) : Result := request tag 0x08 [mode] s

/-- READ_MEMBERS (R22). -/
def execReadMembers (tag : Byte) (s : State) : Result := request tag 0x09 [] s

/-- READ_GROUP (R23). -/
def execReadGroup (tag : Byte) (s : State) : Result := request tag 0x0A [] s

/-- SET_AUTHORITY (R28). -/
def execSetAuthority (tag : Byte) (authority : Byte) (s : State) : Result := request tag 0x10 [authority] s

/-- ORDER (R29, R30). -/
def execOrder (tag : Byte) (kind : Byte) (s : State) : Result := request tag 0x11 [kind] s

/-- ABANDON (R55). -/
def execAbandon (tag : Byte) (s : State) : Result := request tag 0x12 [] s

/-- CLEAR_FAULTS (R58). -/
def execClearFaults (tag : Byte) (s : State) : Result := request tag 0x13 [] s

/-- RESUME (R85 to R87). -/
def execResume (tag : Byte) (s : State) : Result := request tag 0x14 [] s

/-- BYPASS_ENTER (R106). -/
def execBypassEnter (tag : Byte) (s : State) : Result := request tag 0x15 [] s

/-- BYPASS_EXIT (R109). -/
def execBypassExit (tag : Byte) (s : State) : Result := request tag 0x16 [] s

/-- SET_SPREADER (R95, R96). -/
def execSetSpreader (tag : Byte) (headblock length mode : Byte) (s : State) : Result := request tag 0x18 [headblock, length, mode] s

/-- LOAD_PROFILE (R120). -/
def execLoadProfile (tag : Byte) (headblock presence : Byte) (serial : Word) (lockDead unlockDead bodyDead turn : Half)
    (settle setTimeout : Byte) (s : State) : Result :=
  request tag 0x20 ([headblock, presence] ++ be32 serial ++ be16 lockDead ++ be16 unlockDead ++ be16 bodyDead ++
    be16 turn ++ [settle, setTimeout]) s

/-- ARM (R121). -/
def execArm (tag : Byte) (headblock : Byte) (s : State) : Result := request tag 0x21 [headblock] s

/-- DISARM (R122). -/
def execDisarm (tag : Byte) (headblock : Byte) (s : State) : Result := request tag 0x22 [headblock] s

/-- RELEASE (R123). -/
def execRelease (tag : Byte) (headblock : Byte) (s : State) : Result := request tag 0x23 [headblock] s

/-- ATTACH (R124). -/
def execAttach (tag : Byte) (headblock : Byte) (s : State) : Result := request tag 0x24 [headblock] s

/-- READ_DESCRIPTOR (R117). -/
def execReadDescriptor (tag : Byte) (headblock : Byte) (s : State) : Result := request tag 0x25 [headblock] s

/-- READ_NODES (R145). -/
def execReadNodes (tag : Byte) (headblock : Byte) (s : State) : Result := request tag 0x28 [headblock] s

/-- READ_NODE_DIAG (R146). -/
def execReadNodeDiag (tag : Byte) (headblock address first count : Byte) (s : State) : Result := request tag 0x29 [headblock, address, first, count] s

/-- WATCH_SET (R177). -/
def execWatchSet (tag : Byte) (signal edge : Byte) (s : State) : Result := request tag 0x30 [signal, edge] s

/-- WATCH_CLEAR (R177). -/
def execWatchClear (tag : Byte) (signal : Byte) (s : State) : Result := request tag 0x31 [signal] s

/-- WATCH_LIST (R177). -/
def execWatchList (tag : Byte) (s : State) : Result := request tag 0x32 [] s

end Sys2Proof.Machine
end

