-- ==== Sys2Proof/Machine/Events.lean ====
section
/-! DEFINITION. The meanings of the commands that are not requests: start, link line, trip chain, plugs, buses, timed
events, cab. A command whose condition does not stand changes nothing (log 2). -/

namespace Sys2Proof.Machine

/-- POWER_ON (R173). -/
def execPowerOn (s : State) : Result := .next (finish (powerOn s) (powerOn s))

/-- LINK_FRAME_RECEIVED (R163: the last CHECK byte of a frame). -/
def execLinkFrameReceived (lastCheck : Byte) (s : State) : Result :=
  .next (finish s (receiveByte lastCheck s))

/-- LINK_BYTE_GAP (R163). -/
def execLinkByteGap (s : State) : Result := .next (finish s (byteGap s))

/-- REPLY_SENT (R165, R171, R172). -/
def execReplySent (s : State) : Result :=
  match s.restartDue with
  | some kind => .next (finish (start kind s) (start kind s))
  | none => .next (finish s (replySent s))

/-- NOTICE_SENT (R167). -/
def execNoticeSent (s : State) : Result := .next (finish s (noticeSent s))

/-- TRIP_CHAIN_RAW_CHANGE (R76, R77). -/
def execTripChainRawChange (closed : Bool) (s : State) : Result := .next (finish s (chainRaw closed s))

/-- TRIP_EDGE (R76, R79, R84: GROUP_STATE is queued within, R81). -/
def execTripEdge (s : State) : Result := .next (finish (tripEdge s) (tripEdge s))

/-- TRIP_CHAIN_REARM (R77). -/
def execTripChainRearm (s : State) : Result := .next (finish s (chainRearm s))

/-- PLUG_RAW_CHANGE (R112). -/
def execPlugRawChange (hb : Headblock) (present : Bool) (s : State) : Result :=
  .next (finish s (plugRaw hb present s))

/-- PLUG_INSERTION (R112, R114). -/
def execPlugInsertion (hb : Headblock) (s : State) : Result := .next (finish s (plugSettled hb true s))

/-- PLUG_REMOVAL (R112, R118). -/
def execPlugRemoval (hb : Headblock) (s : State) : Result := .next (finish s (plugSettled hb false s))

/-- POWER_UP_DELAY_END (R114). -/
def execPowerUpDelayEnd (hb : Headblock) (s : State) : Result := .next (finish s (powerUpEnd hb s))

/-- POWER_DOWN_DELAY_END (R119). -/
def execPowerDownDelayEnd (hb : Headblock) (s : State) : Result := .next (finish s (powerDownEnd hb s))

/-- MASTER_FRAME_END (R135). -/
def execMasterFrameEnd (hb : Headblock) (s : State) : Result := .next (finish s (masterFrameEnd hb s))

/-- HOLD_OFF (R135). -/
def execHoldOff (hb : Headblock) (overlap : Bool) (s : State) : Result :=
  .next (finish s (holdOff hb overlap s))

/-- EXCH_REPLY (R135, R136). -/
def execExchReply (hb : Headblock) (bytes : List Byte) (overlap : Bool) (s : State) : Result :=
  .next (finish s (onWindow hb (fun f => judgeReply f bytes overlap) s))

/-- ID_REPLY (R115, R135). -/
def execIdReply (hb : Headblock) (bytes : List Byte) (overlap : Bool) (s : State) : Result :=
  .next (finish s (onWindow hb (fun f => judgeReply f bytes overlap) s))

/-- DIAG_REPLY (R135, R147). -/
def execDiagReply (hb : Headblock) (bytes : List Byte) (overlap : Bool) (s : State) : Result :=
  .next (finish s (onWindow hb (fun f => judgeReply f bytes overlap) s))

/-- REPLY_WINDOW_END (R135). -/
def execReplyWindowEnd (hb : Headblock) (overlap : Bool) (s : State) : Result :=
  .next (finish s (onWindow hb (fun f => judgeSilence f overlap) s))

/-- REPLY_STALL (R135). -/
def execReplyStall (hb : Headblock) (overlap : Bool) (s : State) : Result :=
  .next (finish s (onWindow hb (fun f => judgeStall f overlap) s))

/-- NODE_DUE (R142). -/
def execNodeDue (hb : Headblock) (node : NodeIx) (s : State) : Result := .next (finish s (nodeDue hb node s))

/-- PROBE_DUE (R140). -/
def execProbeDue (hb : Headblock) (s : State) : Result := .next (finish s (probeDue hb s))

/-- LAST_ON_EXPIRY (R66). -/
def execLastOnExpiry (pair : PairId) (coil : Side) (s : State) : Result :=
  .next (finish s (expireLastOn pair coil s))

/-- LOST_NODE_OFF_TIME (R72). -/
def execLostNodeOffTime (hb : Headblock) (node : NodeIx) (s : State) : Result :=
  .next (finish s (lostNodeOffTime hb node s))

/-- MEMBER_DEAD_TIME_END (R41). -/
def execMemberDeadTimeEnd (member : Member) (s : State) : Result :=
  .next (finish s (memberDeadTime member s))

/-- CONFIRM_DEADLINE (R34). -/
def execConfirmDeadline (s : State) : Result := .next (finish s (confirmLate s))

/-- TURN_DEADLINE (R48). -/
def execTurnDeadline (s : State) : Result := .next (finish s (turnLate s))

/-- STEP_DEAD_TIME_END (R98). -/
def execStepDeadTimeEnd (hb : Headblock) (s : State) : Result := .next (finish s (stepDeadTime hb s))

/-- SET_DEADLINE (R101). -/
def execSetDeadline (hb : Headblock) (s : State) : Result := .next (finish s (setLate hb s))

/-- CAB_RAW_CHANGE (R152). -/
def execCabRawChange (input : CabInput) (on : Bool) (s : State) : Result :=
  .next (finish s (cabRaw input on s))

/-- CAB_DEBOUNCE_END (R152 to R156). -/
def execCabDebounceEnd (input : CabInput) (s : State) : Result := .next (finish s (cabDebounceEnd input s))

/-- FLASH_CLOCK (R159). -/
def execFlashClock (s : State) : Result := .next (finish s (flashClock s))

/-- LINK_BYTE_RECEIVED (R163: any other byte). -/
def execLinkByteReceived (byte : Byte) (s : State) : Result := .next (finish s (receiveByte byte s))

end Sys2Proof.Machine
end

