-- ==== Sys2Proof/Machine/Dispatch.lean ====
section
/-! DEFINITION. What each command does: one arm per constructor of `Instr`. -/

namespace Sys2Proof.Machine

def exec (i : Instr) (s : State) : Host.Outcome State Fault Refusal :=
  match i with
  | .powerOn => Sys2Proof.Machine.execPowerOn s
  | .linkFrameReceived lastCheck => Sys2Proof.Machine.execLinkFrameReceived lastCheck s
  | .linkByteGap => Sys2Proof.Machine.execLinkByteGap s
  | .unknownKind tag kind body => Sys2Proof.Machine.execUnknownKind tag kind body s
  | .identifyPart tag => Sys2Proof.Machine.execIdentifyPart tag s
  | .getStatus tag => Sys2Proof.Machine.execGetStatus tag s
  | .setTiming tag period share powerUp powerDown confirm debounce => Sys2Proof.Machine.execSetTiming tag period share powerUp powerDown confirm debounce s
  | .restart tag kind => Sys2Proof.Machine.execRestart tag kind s
  | .setTrolleyMode tag mode => Sys2Proof.Machine.execSetTrolleyMode tag mode s
  | .readMembers tag => Sys2Proof.Machine.execReadMembers tag s
  | .readGroup tag => Sys2Proof.Machine.execReadGroup tag s
  | .setAuthority tag authority => Sys2Proof.Machine.execSetAuthority tag authority s
  | .order tag kind => Sys2Proof.Machine.execOrder tag kind s
  | .abandon tag => Sys2Proof.Machine.execAbandon tag s
  | .clearFaults tag => Sys2Proof.Machine.execClearFaults tag s
  | .resume tag => Sys2Proof.Machine.execResume tag s
  | .bypassEnter tag => Sys2Proof.Machine.execBypassEnter tag s
  | .bypassExit tag => Sys2Proof.Machine.execBypassExit tag s
  | .setSpreader tag headblock length mode => Sys2Proof.Machine.execSetSpreader tag headblock length mode s
  | .loadProfile tag headblock presence serial lockDead unlockDead bodyDead turn settle setTimeout => Sys2Proof.Machine.execLoadProfile tag headblock presence serial lockDead unlockDead bodyDead turn settle setTimeout s
  | .arm tag headblock => Sys2Proof.Machine.execArm tag headblock s
  | .disarm tag headblock => Sys2Proof.Machine.execDisarm tag headblock s
  | .release tag headblock => Sys2Proof.Machine.execRelease tag headblock s
  | .attach tag headblock => Sys2Proof.Machine.execAttach tag headblock s
  | .readDescriptor tag headblock => Sys2Proof.Machine.execReadDescriptor tag headblock s
  | .readNodes tag headblock => Sys2Proof.Machine.execReadNodes tag headblock s
  | .readNodeDiag tag headblock address first count => Sys2Proof.Machine.execReadNodeDiag tag headblock address first count s
  | .watchSet tag signal edge => Sys2Proof.Machine.execWatchSet tag signal edge s
  | .watchClear tag signal => Sys2Proof.Machine.execWatchClear tag signal s
  | .watchList tag => Sys2Proof.Machine.execWatchList tag s
  | .replySent => Sys2Proof.Machine.execReplySent s
  | .noticeSent => Sys2Proof.Machine.execNoticeSent s
  | .tripChainRawChange closed => Sys2Proof.Machine.execTripChainRawChange closed s
  | .tripEdge => Sys2Proof.Machine.execTripEdge s
  | .tripChainRearm => Sys2Proof.Machine.execTripChainRearm s
  | .plugRawChange hb present => Sys2Proof.Machine.execPlugRawChange hb present s
  | .plugInsertion hb => Sys2Proof.Machine.execPlugInsertion hb s
  | .plugRemoval hb => Sys2Proof.Machine.execPlugRemoval hb s
  | .powerUpDelayEnd hb => Sys2Proof.Machine.execPowerUpDelayEnd hb s
  | .powerDownDelayEnd hb => Sys2Proof.Machine.execPowerDownDelayEnd hb s
  | .masterFrameEnd hb => Sys2Proof.Machine.execMasterFrameEnd hb s
  | .holdOff hb overlap => Sys2Proof.Machine.execHoldOff hb overlap s
  | .exchReply hb bytes overlap => Sys2Proof.Machine.execExchReply hb bytes overlap s
  | .idReply hb bytes overlap => Sys2Proof.Machine.execIdReply hb bytes overlap s
  | .diagReply hb bytes overlap => Sys2Proof.Machine.execDiagReply hb bytes overlap s
  | .replyWindowEnd hb overlap => Sys2Proof.Machine.execReplyWindowEnd hb overlap s
  | .replyStall hb overlap => Sys2Proof.Machine.execReplyStall hb overlap s
  | .nodeDue hb node => Sys2Proof.Machine.execNodeDue hb node s
  | .probeDue hb => Sys2Proof.Machine.execProbeDue hb s
  | .lastOnExpiry pair coil => Sys2Proof.Machine.execLastOnExpiry pair coil s
  | .lostNodeOffTime hb node => Sys2Proof.Machine.execLostNodeOffTime hb node s
  | .memberDeadTimeEnd member => Sys2Proof.Machine.execMemberDeadTimeEnd member s
  | .confirmDeadline => Sys2Proof.Machine.execConfirmDeadline s
  | .turnDeadline => Sys2Proof.Machine.execTurnDeadline s
  | .stepDeadTimeEnd hb => Sys2Proof.Machine.execStepDeadTimeEnd hb s
  | .setDeadline hb => Sys2Proof.Machine.execSetDeadline hb s
  | .cabRawChange input on => Sys2Proof.Machine.execCabRawChange input on s
  | .cabDebounceEnd input => Sys2Proof.Machine.execCabDebounceEnd input s
  | .flashClock => Sys2Proof.Machine.execFlashClock s
  | .linkByteReceived byte => Sys2Proof.Machine.execLinkByteReceived byte s

end Sys2Proof.Machine
end

