-- ==== Sys2Proof/Machine/Step.lean ====
section
/-! DEFINITION. One step of the block: the command at the front of the queue; a tick of the millisecond time when the
queue is empty. -/

namespace Sys2Proof.Machine

/-- On an empty queue one millisecond passes and nothing else happens (log 4). -/
def idleTick (s : State) : State := { s with time := s.time + 1 }

/-- The command at the front is taken; it is executed on the state with the queue's rest. -/
def step (s : State) : Host.Outcome State Fault Refusal :=
  match s.pending with
  | [] => .next (idleTick s)
  | c :: rest => exec c { s with pending := rest }

/-- The state with the command that a word spells put at the front of its queue; no word spells one (log 35). -/
def State.withFetchWord (s : State) (nbits w : Nat) : State :=
  match decodeTableWord nbits w with
  | none => s
  | some c => { s with pending := c :: s.pending }

end Sys2Proof.Machine
end

