-- ==== Sys2Proof/Safety.lean ====
section
/-! DEFINITION. What the statements about the MJ4 speak of: what a command leaves unchanged, how a request is answered,
and the invariants of the state. -/

namespace Sys2Proof.Machine

/-! ## What a command leaves unchanged -/

/-- A record of the node table without the two fields that belong to the sending of frames. -/
def NodeRec.received (r : NodeRec) : NodeRec := { r with output := 0, lastBegun := none }

/-- A part of the state. `nodes` is what the node tables have received; `traffic` is all the bus controllers hold; `bypass`
is the bypass state with the count of choices that R110 leaves free. -/
inductive Field
  | pending | time | timing | receiver | queue | reply | tx | notices | watches | signals | cab | lamps | flash
  | nodes | traffic | attach | members | mode | memberList | groupState | permits | order | confirmed | authority
  | pairs | awaitingOff | setting | trip | bypass
  deriving DecidableEq, Repr

/-- The part is the same in both states. -/
def Field.same (s t : State) : Field → Prop
  | .pending => t.pending = s.pending
  | .time => t.time = s.time
  | .timing => t.timing = s.timing
  | .receiver => t.link.rx = s.link.rx ∧ t.link.lastByte = s.link.lastByte
  | .queue => t.link.queue = s.link.queue
  | .reply => t.link.reply = s.link.reply
  | .tx => t.link.tx = s.link.tx
  | .notices => t.notices = s.notices
  | .watches => t.watches = s.watches
  | .signals => t.signals = s.signals
  | .cab => t.cab = s.cab
  | .lamps => t.lamps = s.lamps
  | .flash => t.flash = s.flash
  | .nodes => ∀ hb n, (t.node hb n).map NodeRec.received = (s.node hb n).map NodeRec.received
  | .traffic => t.bus = s.bus
  | .attach => t.attach = s.attach
  | .members => t.members = s.members
  | .mode => t.mode = s.mode
  | .memberList => t.group.members = s.group.members
  | .groupState => t.group.state = s.group.state ∧ t.group.summary = s.group.summary
  | .permits => t.permits = s.permits
  | .order => t.order = s.order
  | .confirmed => t.confirmed = s.confirmed
  | .authority => t.authority = s.authority
  | .pairs => t.pairs = s.pairs
  | .awaitingOff => t.awaitingOff = s.awaitingOff
  | .setting => t.setting = s.setting
  | .trip => t.trip = s.trip
  | .bypass => t.bypass = s.bypass ∧ t.choices = s.choices

/-- Every part but those listed is the same. -/
def keeps (changed : List Field) (s t : State) : Prop := ∀ f, f ∉ changed → f.same s t

/-- What the common end of every action (`finish`) may bring into agreement with the rest of the state: GROUP_STATE,
PERMIT and WATCH_HIT notices (R17, R20, R179), the signal records (R178), the lamps (R158), output images, urgent lists
and the frames begun (R62, R140), the group state (R15), the permits (R20) and the transmit line (R167). -/
def settled : List Field := [.tx, .notices, .signals, .lamps, .traffic, .groupState, .permits]

/-- Nothing is left for the end of an action to do. -/
def Settled (s : State) : Prop := finish s s = s

/-! ## Requests -/

/-- No request waits and no reply is in hand: a request that arrives is taken at once (R165). -/
def Free (s : State) : Prop := s.link.reply = none ∧ s.link.queue = []

/-- Table 10-6: the frame that a request row stands for; none for the other rows. -/
def requestOf : Instr → Option Request
  | .unknownKind tag kind body => some ⟨tag, kind, body⟩
  | .identifyPart tag => some ⟨tag, 0x01, []⟩
  | .getStatus tag => some ⟨tag, 0x02, []⟩
  | .setTiming tag period share powerUp powerDown confirm debounce =>
    some ⟨tag, 0x03, [period, share] ++ be16 powerUp ++ be16 powerDown ++ [confirm, debounce]⟩
  | .restart tag kind => some ⟨tag, 0x04, [kind]⟩
  | .setTrolleyMode tag mode => some ⟨tag, 0x08, [mode]⟩
  | .readMembers tag => some ⟨tag, 0x09, []⟩
  | .readGroup tag => some ⟨tag, 0x0A, []⟩
  | .setAuthority tag authority => some ⟨tag, 0x10, [authority]⟩
  | .order tag kind => some ⟨tag, 0x11, [kind]⟩
  | .abandon tag => some ⟨tag, 0x12, []⟩
  | .clearFaults tag => some ⟨tag, 0x13, []⟩
  | .resume tag => some ⟨tag, 0x14, []⟩
  | .bypassEnter tag => some ⟨tag, 0x15, []⟩
  | .bypassExit tag => some ⟨tag, 0x16, []⟩
  | .setSpreader tag headblock length mode => some ⟨tag, 0x18, [headblock, length, mode]⟩
  | .loadProfile tag headblock presence serial lockDead unlockDead bodyDead turn settle setTimeout =>
    some ⟨tag, 0x20, [headblock, presence] ++ be32 serial ++ be16 lockDead ++ be16 unlockDead ++ be16 bodyDead ++
      be16 turn ++ [settle, setTimeout]⟩
  | .arm tag headblock => some ⟨tag, 0x21, [headblock]⟩
  | .disarm tag headblock => some ⟨tag, 0x22, [headblock]⟩
  | .release tag headblock => some ⟨tag, 0x23, [headblock]⟩
  | .attach tag headblock => some ⟨tag, 0x24, [headblock]⟩
  | .readDescriptor tag headblock => some ⟨tag, 0x25, [headblock]⟩
  | .readNodes tag headblock => some ⟨tag, 0x28, [headblock]⟩
  | .readNodeDiag tag headblock address first count => some ⟨tag, 0x29, [headblock, address, first, count]⟩
  | .watchSet tag signal edge => some ⟨tag, 0x30, [signal, edge]⟩
  | .watchClear tag signal => some ⟨tag, 0x31, [signal]⟩
  | .watchList tag => some ⟨tag, 0x32, []⟩
  | .powerOn | .linkFrameReceived _ | .linkByteGap | .replySent | .noticeSent | .tripChainRawChange _ | .tripEdge
  | .tripChainRearm | .plugRawChange _ _ | .plugInsertion _ | .plugRemoval _ | .powerUpDelayEnd _
  | .powerDownDelayEnd _ | .masterFrameEnd _ | .holdOff _ _ | .exchReply _ _ _ | .idReply _ _ _ | .diagReply _ _ _
  | .replyWindowEnd _ _ | .replyStall _ _ | .nodeDue _ _ | .probeDue _ | .lastOnExpiry _ _ | .lostNodeOffTime _ _
  | .memberDeadTimeEnd _ | .confirmDeadline | .turnDeadline | .stepDeadTimeEnd _ | .setDeadline _
  | .cabRawChange _ _ | .cabDebounceEnd _ | .flashClock | .linkByteReceived _ => none

/-- The request is answered in state `s` with the status and values given, and `act` is all it does: it joins the queue,
acts, and its reply is in hand when the action ends (R165, R166). -/
def answers (i : Instr) (s : State) (status : Status) (values : List Byte) (act : State → State) : Prop :=
  ∃ q, requestOf i = some q ∧
    exec i s = .next (finish s (putReply ⟨q.tag, q.kind, status, values⟩ (act (enqueue q s))))

/-- A refusal: the reply holds the status alone, and nothing is done (R166). -/
def refuses (i : Instr) (s : State) (status : Status) : Prop := answers i s status [] id

/-- The first check of a table that fails gives its refusal. -/
def firstFailing {α : Type} (checks : List (Bool × α)) : Option α := (checks.find? fun c => !c.1).map Prod.snd

/-- A table of checks: the first that fails refuses the request, and `accepted` holds when every one passes. -/
def judged (i : Instr) (s : State) (checks : List (Bool × Status)) (accepted : Prop) : Prop :=
  match firstFailing checks with
  | some status => refuses i s status
  | none => accepted

/-! ## Effects that several statements write out -/

/-- R46, R47: the order of the head and members given is held in FAULT_HELD: both coils of every member claimed off, the
off marks cleared, ORDER_STAGE and ORDER_END queued. -/
def heldOrder (head : OrderHead) (members : List OrderMember) (reason : EndReason) (u : State) : State :=
  postAll [.orderStage .faultHeld head,
      .orderEnd head .held reason (members.map fun om => (om.member, om.progress))]
    (updatePairs (fun p r =>
        if ∃ om ∈ members, om.member.pair = p then { r with command := .bothOff, offMark := false } else r)
      { u with order := .faultHeld head members reason })

/-- R73, R83: the awaiting-off set loses the pairs that `gone` names; when that empties it, a HOLDING trip unit becomes
HELD and queues HOLD_STATE. -/
def confirmedOff (gone : PairId → Bool) (u : State) : State :=
  let rest := u.awaitingOff.filter fun p => !gone p
  match u.trip.state with
  | .holding cause =>
    if u.awaitingOff ≠ [] ∧ rest = [] then
      post (.holdState (.held cause) u.trip.pending u.trip.chainClosed u.trip.hold)
        { u with awaitingOff := rest, trip := { u.trip with state := .held cause } }
    else { u with awaitingOff := rest }
  | .clear | .held _ => { u with awaitingOff := rest }

/-! ## Invariants -/

/-- R18, R19: each permit is on exactly when its conditions hold. -/
def PermitsAgree (s : State) : Prop :=
  (s.permits.up = true ↔
    s.trip.state = .clear ∧ s.bypass = none ∧ s.order = .idle ∧ (∀ hb, (s.setting.get hb).op = none) ∧
      (s.group.state = .allLocked ∨ s.group.state = .allUnlocked)) ∧
  (s.permits.down = true ↔
    s.trip.state = .clear ∧ s.bypass = none ∧ s.order.stage ≠ .turning ∧ s.order.stage ≠ .settling)

/-- R78: while the trip unit is HOLDING or HELD no coil is commanded on, no order waits or turns, and no set operation
runs (R79). -/
def HoldSafe (s : State) : Prop :=
  s.trip.state ≠ .clear →
    (∀ p, (s.pair p).command = .bothOff) ∧ (s.order = .idle ∨ s.order.stage = .suspended ∨ s.order.stage = .faultHeld) ∧
      ∀ hb, (s.setting.get hb).op = none

/-- R39, R64, R65: a coil is commanded on and an off mark is set only for a member on the list of an order in TURNING or
SETTLING, or for a body pair while a set operation runs on its spreader. -/
def CoilsHeld (s : State) : Prop :=
  ∀ p, (s.pair p).command ≠ .bothOff ∨ (s.pair p).offMark = true →
    (p.isBody = true → ((s.setting.get p.hb).op).isSome) ∧
      (p.isBody = false → ∃ om ∈ s.order.activeMembers, om.member.pair = p)

/-- R73, R83: the trip unit is HOLDING exactly while pairs await confirmation. -/
def AwaitsInHolding (s : State) : Prop := (∃ cause, s.trip.state = .holding cause) ↔ s.awaitingOff ≠ []

/-- R80, R87, R89: the hold record holds an order exactly while the order record is SUSPENDED, and then the trip unit
is not CLEAR. -/
def HoldMatchesOrder (s : State) : Prop :=
  (s.trip.hold.isSome ↔ s.order.stage = .suspended) ∧ (s.order.stage = .suspended → s.trip.state ≠ .clear)

/-- R2 to R4: every member's values are those derived from what stands now. -/
def MembersDerived (s : State) : Prop := ∀ m, s.member m = s.derivedMember m

/-- R164, R175, R177: the queues and the watch table stay within their capacities, and no signal is watched twice. -/
def WithinCapacity (s : State) : Prop :=
  s.link.queue.length ≤ Config.receiveCapacity ∧ s.notices.queue.length ≤ Config.noticeCapacity ∧
    s.watches.length ≤ Config.watchCapacity ∧ (s.watches.map Watch.signal).Nodup

end Sys2Proof.Machine
end

