-- ==== Sys2Proof/Certificates/Slice0/Obligations.lean ====
section
/-! DEFINITION. The statements about the MJ4: the step, the invariants, the end of every action, every request, every
event of the link, the pins, the buses and the clocks. A statement of a command says what it answers (`exec … = .next …`)
as the end of an action (`finish`) after the changes written out; `EndOfActionKeeps` says what `finish` leaves as it was,
and the statements after it say what `finish` brings about. -/

open Sys2Proof Sys2Proof.Machine

/-! ## The step -/

/-- A step takes the command at the front of the queue; on an empty queue one millisecond passes and nothing else
happens (the model's choice, log 4). -/
def Obligations.StepTakesFront : Prop :=
  (∀ (c : Instr) (s : State), step { s with pending := c :: s.pending } = exec c s) ∧
    ∀ s : State, s.pending = [] → step s = .next { s with time := s.time + 1 }

/-- R6, R7, R24, R60, R75, R91, R104, R111, R130, R144, R149, R153, R160, R170, R173, R180: what power-on leaves in the
parts named (not the raw levels, the running times of chain, plugs and delays, the flash half's end, the times of the
last byte and probe, the notices' stamps). That the input pins are off, absent and open, and the head notice is on the
line, is the model's choice of moment (log 7). -/
def Obligations.ResetValues : Prop :=
  let s := State.reset
  s.pending = [] ∧ s.time = 0 ∧ s.timing = ⟨40, .idleOnly, 800, 500, 5, 30⟩ ∧
  (s.link.rx = .hunting ∧ s.link.queue = [] ∧ s.link.reply = none ∧ s.link.tx = .notice) ∧
  (s.notices.queue.map Notice.body =
      [.started .powerOn 0, .holdState (.held .start) false false none, .attachState .a .empty none none,
        .attachState .b .empty none none, .groupState .soloA ⟨[], .notReady, .none⟩] ∧
    s.notices.overrun = false ∧ s.watches = []) ∧
  (s.mode = .soloA ∧ s.group = ⟨[], .notReady, .none⟩ ∧ s.permits = ⟨false, false⟩ ∧
    ∀ m ∈ allMembers, s.member m = ⟨.unknown, .unknown⟩) ∧
  (s.order = .idle ∧ s.authority = .linkWithConfirm ∧ s.bypass = none) ∧
  (∀ p ∈ allPairs, s.pair p = ⟨.bothOff, false, false, false, none, none⟩) ∧ s.awaitingOff = [] ∧
  (s.trip.state = .held .start ∧ s.trip.pending = false ∧ s.trip.hold = none ∧ s.trip.chainClosed = false) ∧
  (∀ hb ∈ headblocks, s.setting.get hb = ⟨none, 0, none⟩ ∧
    ((s.attach.get hb).state = .empty ∧ (s.attach.get hb).descriptor = none ∧ (s.attach.get hb).profile = none ∧
      (s.attach.get hb).census = none ∧ (s.attach.get hb).plug = false) ∧
    ((∀ n, s.node hb n = none) ∧ (s.bus.get hb).urgent = [] ∧ (s.bus.get hb).flight = none ∧
      (s.bus.get hb).transfer = none)) ∧
  (∀ i ∈ [CabInput.lockPb, .unlockPb, .confirmPb, .bypassKey, .gp1, .gp2, .gp3, .gp4],
    (s.cabIn i).level = none ∧ (s.cabIn i).timer = some 30) ∧
  (s.lamps = ⟨⟨.off, .off⟩, ⟨.off, .off⟩, ⟨.off, .off⟩, .off, .off, .steady, .off⟩ ∧ s.flash.lit = true) ∧
  ∀ i : Fin 103, s.signals.get i =
    ⟨if i.val ∈ [8, 9, 10, 101, 102] then some false else none, false⟩

/-- Every invariant below holds in the state after reset. -/
def Obligations.ResetMeetsInvariants : Prop :=
  PermitsAgree State.reset ∧ HoldSafe State.reset ∧ CoilsHeld State.reset ∧ AwaitsInHolding State.reset ∧
    HoldMatchesOrder State.reset ∧ MembersDerived State.reset ∧ WithinCapacity State.reset

/-! ## Invariants of every step -/

/-- R18, R19: each permit is on exactly when its conditions hold, after every step. -/
def Obligations.StepKeepsPermitsAgree : Prop :=
  ∀ s t : State, PermitsAgree s → step s = .next t → PermitsAgree t

/-- R78: while the trip unit is HOLDING or HELD no coil is commanded on, no order waits or turns, no set operation runs.
-/
def Obligations.StepKeepsHoldSafe : Prop := ∀ s t : State, HoldSafe s → step s = .next t → HoldSafe t

/-- R39, R64, R65: a coil is commanded on, and an off mark set, only for a member on the list of an order in TURNING or
SETTLING, whatever its progress, or for a body pair while any set operation runs on its spreader. The premise `HoldSafe`
is `StepKeepsHoldSafe`'s. -/
def Obligations.StepKeepsCoilsHeld : Prop :=
  ∀ s t : State, HoldSafe s → CoilsHeld s → step s = .next t → CoilsHeld t

/-- R73, R83: pairs await confirmation exactly while the trip unit is HOLDING. -/
def Obligations.StepKeepsAwaitsInHolding : Prop :=
  ∀ s t : State, AwaitsInHolding s → step s = .next t → AwaitsInHolding t

/-- R80, R87, R89: the hold record holds an order exactly while the order record is SUSPENDED, and then a hold stands.
-/
def Obligations.StepKeepsHoldMatchesOrder : Prop :=
  ∀ s t : State, HoldMatchesOrder s → step s = .next t → HoldMatchesOrder t

/-- R3, R4: what the member table holds is what its rule derives from the attachment state, the node's link state and
its input image, after every step. -/
def Obligations.StepKeepsMembersDerived : Prop :=
  ∀ s t : State, MembersDerived s → step s = .next t → MembersDerived t

/-- R164, R175, R177: the two queues and the watch table stay within their capacities. -/
def Obligations.StepKeepsWithinCapacity : Prop :=
  ∀ s t : State, WithinCapacity s → step s = .next t → WithinCapacity t

/-! ## The end of every action -/

/-- After every command nothing is left for the end of an action to do: images, group, permits, lamps, signals, buses
and line agree with the rest (R15, R20, R62, R140, R158, R167, R178). -/
def Obligations.EveryCommandSettles : Prop := ∀ (c : Instr) (s t : State), exec c s = .next t → Settled t

/-- The end of an action changes the transmit line, the notice queue, the signal records, the lamps, the buses' traffic,
the group state and summary and the permits; it leaves every other part of the state as it was. -/
def Obligations.EndOfActionKeeps : Prop := ∀ old s : State, keeps settled s (finish old s)

/-- R17, R20, R178, R179: the notices of an action's end: GROUP_STATE when mode, list, state or summary differ from
those before the action; PERMIT for each permit that changes, the up permit first; the hits in signal code order. The
signal records follow: a known value is taken and its gap flag cleared; an unknown signal keeps its value and marks the
gap. -/
def Obligations.NoticesAndSignals : Prop :=
  ∀ old s : State,
    let t := finish old s
    let level := fun (p : Permit) (now : Bool) (cause : Option PermitCause) (before : Bool) =>
      if now = before then [] else [NoticeBody.permit p now cause]
    t.notices = (postAll
      ((if t.mode = old.mode ∧ t.group = old.group then [] else [.groupState t.mode t.group]) ++
        level .up t.permits.up t.upCause s.permits.up ++ level .down t.permits.down t.downCause s.permits.down ++
        (List.finRange 103).filterMap fun i => match (s.signals.get i).value, t.signalValue i with
          | some before, some now =>
            if before ≠ now ∧ ∃ w ∈ s.watches, w.signal = i.val ∧
                (w.edge = .both ∨ (w.edge = .rise ∧ now = true) ∨ (w.edge = .fall ∧ now = false)) then
              some (.watchHit i.val now (s.signals.get i).gap)
            else none
          | _, _ => none) s).notices ∧
    ∀ i : Fin 103,
      (∀ v, t.signalValue i = some v → t.signals.get i = ⟨some v, false⟩) ∧
      (t.signalValue i = none →
        t.signals.get i = ⟨(s.signals.get i).value, (s.signals.get i).gap || (s.signals.get i).value.isSome⟩)

/-- R62: after an action each node's output image carries, for each pair the node serves, exactly the pair's command,
and every other bit is 0; a node whose image changed stands on its bus's urgent list unless its frame has begun. -/
def Obligations.OutputImages : Prop :=
  ∀ (old s : State) (hb : Headblock) (n : NodeIx) (r : NodeRec),
    let t := finish old s
    t.node hb n = some r →
      (∀ p ∈ nodePairs hb n, imageEcho p r.output = (t.pair p).command.echo) ∧
      (∀ i, 4 ≤ i → r.output.getLsbD i = false) ∧ (5 ≤ n.val → r.output = 0) ∧
      ((s.node hb n).map NodeRec.output ≠ some r.output →
        n ∈ (t.bus.get hb).urgent ∨
          ∃ f period, (t.bus.get hb).flight = some f ∧ f.node = n ∧ f.phase = .sending ∧
            f.kind = .exchange (if (t.attach.get hb).state = .armed then r.output else 0) period)

/-- R14, Table 1-7, and R16: the group state and the landed summary after every command; UNKNOWN counts as not landed,
and an empty group has NONE. -/
def Obligations.GroupStateAndSummary : Prop :=
  ∀ (c : Instr) (s t : State), exec c s = .next t →
    let ms := t.group.members
    let bad := ∃ m ∈ ms, (t.member m).position = .unknown ∨ (t.member m).position = .conflict ∨ (t.pair m.pair).fault = true
    let allLocked := ∀ m ∈ ms, (t.member m).position = .locked
    let allUnlocked := ∀ m ∈ ms, (t.member m).position = .unlocked
    ((ms = [] → t.group.state = .notReady) ∧
      (ms ≠ [] → bad → t.group.state = .fault) ∧
      (ms ≠ [] → ¬bad → allLocked → t.group.state = .allLocked) ∧
      (ms ≠ [] → ¬bad → ¬allLocked → allUnlocked → t.group.state = .allUnlocked) ∧
      (ms ≠ [] → ¬bad → ¬allLocked → ¬allUnlocked → t.group.state = .mixed)) ∧
    ((∀ m ∈ ms, (t.member m).landed ≠ .on) → t.group.summary = .none) ∧
    (ms ≠ [] → (∀ m ∈ ms, (t.member m).landed = .on) → t.group.summary = .all) ∧
    ((∃ m ∈ ms, (t.member m).landed = .on) → (∃ m ∈ ms, (t.member m).landed ≠ .on) → t.group.summary = .some)

/-- R18 and R19 with Tables 1-8 and 1-9: each permit's level after every command, and its cause while it is off. -/
def Obligations.PermitRules : Prop :=
  ∀ (c : Instr) (s t : State), exec c s = .next t →
    let up := firstFailing
      [(decide (t.trip.state = .clear), PermitCause.trip), (decide (t.bypass = none), .bypass),
        (decide (t.order = .idle), .order), (decide (∀ hb ∈ headblocks, (t.setting.get hb).op = none), .setting),
        (decide (t.group.state = .allLocked ∨ t.group.state = .allUnlocked), .group)]
    let down := firstFailing
      [(decide (t.trip.state = .clear), PermitCause.trip), (decide (t.bypass = none), .bypass),
        (decide (t.order.stage ≠ .turning ∧ t.order.stage ≠ .settling), .order)]
    (t.permits.up = true ↔ up = none) ∧ t.upCause = up ∧ (t.permits.down = true ↔ down = none) ∧ t.downCause = down

/-- R158, Table 9-3: the ten lamp states after every command, and when each state is lit. -/
def Obligations.LampTable : Prop :=
  ∀ (c : Instr) (s t : State) (hb : Headblock), exec c s = .next t →
    let ms := t.group.members.filter (·.hb = hb)
    let runs := t.order.stage = .turning ∨ t.order.stage = .settling
    let involves := fun kind => runs ∧ ∃ head stage members due, t.order = .active stage head members due ∧
      head.kind = kind ∧ ∃ om ∈ members, om.member.hb = hb
    let follows := fun (lamp : Lamp) (flashing steady : Prop) =>
      (flashing → lamp = .flashing) ∧ (¬flashing → steady → lamp = .steady) ∧ (¬flashing → ¬steady → lamp = .off)
    let landed := fun m : Member => (t.member m).landed = .on
    ((ms ≠ [] → (∀ m ∈ ms, landed m) → t.lamps.landed.get hb = .steady) ∧
      ((∃ m ∈ ms, landed m) → ¬(∀ m ∈ ms, landed m) → t.lamps.landed.get hb = .flashing) ∧
      (¬(∃ m ∈ ms, landed m) → t.lamps.landed.get hb = .off)) ∧
    follows (t.lamps.locked.get hb) (involves .lock) (¬runs ∧ ms ≠ [] ∧ ∀ m ∈ ms, (t.member m).position = .locked) ∧
    follows (t.lamps.unlocked.get hb) (involves .unlock)
      (¬runs ∧ ms ≠ [] ∧ ∀ m ∈ ms, (t.member m).position = .unlocked) ∧
    follows t.lamps.order (t.order.stage = .proposed) runs ∧
    follows t.lamps.fault False (t.order.stage = .faultHeld ∨ t.group.state = .fault ∨
      ∃ h cause, (t.attach.get h).state = .attachFault cause) ∧
    follows t.lamps.hold (t.trip.state ≠ .clear ∧ t.trip.pending = true) (t.trip.state ≠ .clear) ∧
    follows t.lamps.bypass False (t.bypass ≠ none) ∧
    t.lampLit .steady = true ∧ t.lampLit .off = false ∧ t.lampLit .flashing = t.flash.lit

/-- R167: a free line takes the reply in hand, else the head notice, else stays idle; a frame begun is sent to its end;
the head notice leaves the queue when its frame's last byte is sent. NOTICE_SENT with no notice on the line changes
nothing (the model's choice, log 2). -/
def Obligations.TransmitRule : Prop :=
  (∀ old s : State,
    let t := finish old s
    (s.link.tx ≠ .idle → t.link.tx = s.link.tx) ∧
    (s.link.tx = .idle → t.link.reply ≠ none → t.link.tx = .reply) ∧
    (s.link.tx = .idle → t.link.reply = none → t.notices.queue ≠ [] → t.link.tx = .notice) ∧
    (s.link.tx = .idle → t.link.reply = none → t.notices.queue = [] → t.link.tx = .idle)) ∧
  ∀ s : State,
    (s.link.tx = .notice → exec .noticeSent s = .next (finish s
      { s with link := { s.link with tx := .idle }, notices := { s.notices with queue := s.notices.queue.drop 1 } })) ∧
    (s.link.tx ≠ .notice → exec .noticeSent s = .next (finish s s))

/-! ## The lift group, the orders and the coils -/

/-- R10, R11, R12: a composition. A changed list aborts an order in TURNING or SETTLING with SPREADER_LOST; an unchanged
list changes nothing. -/
def Obligations.Composition : Prop :=
  ∀ s : State,
    let t := compose s
    let named := fun hb : Headblock => match hb with
      | .a => s.mode ≠ .soloB
      | .b => s.mode ≠ .soloA
    let meets := fun hb : Headblock =>
      (s.attach.get hb).state = .armed ∧ (s.setting.get hb).op = none ∧ (s.setting.get hb).setting ≠ none
    let listed := fun m : Member =>
      named m.hb ∧ (m.k.val < 4 ∨ ∃ st, (s.setting.get m.hb).setting = some st ∧ st.mode = .twin)
    (¬(∀ hb, named hb → meets hb) → t.group.members = []) ∧
    ((∀ hb, named hb → meets hb) → (∀ m, m ∈ t.group.members ↔ listed m) ∧ t.group.members.Sublist allMembers) ∧
    t.group.members.length ∈ [0, 4, 8, 12, 16] ∧
    (t.group.members = s.group.members → t = s) ∧
    (t.group.members ≠ s.group.members → match s.order with
      | .active _ head members _ =>
        let failed := members.map fun om => if meets om.member.hb then om else { om with progress := .failed }
        t.order = .faultHeld head failed .spreaderLost ∧
        (∀ p, t.pair p = if ∃ om ∈ members, om.member.pair = p then
          { s.pair p with command := .bothOff, offMark := false } else s.pair p) ∧
        t.notices = (postAll [.orderStage .faultHeld head,
          .orderEnd head .held .spreaderLost (failed.map fun om => (om.member, om.progress))] s).notices
      | o => t.order = o ∧ t.pairs = s.pairs ∧ t.notices = s.notices) ∧
    keeps [.memberList, .order, .pairs, .notices] s t

/-- R2, R3, Table 1-3, Table 8-3: what a member's values are derived as. -/
def Obligations.MemberValues : Prop :=
  ∀ (s : State) (m : Member),
    let inService := (s.attach.get m.hb).state = .identified ∨ (s.attach.get m.hb).state = .armed
    let at0 := if m.k.val < 4 then 0 else 3
    (¬inService → s.derivedMember m = ⟨.unknown, .unknown⟩) ∧
    ((∀ r, s.node m.hb ⟨m.k.val % 4, by omega⟩ = some r → r.link = .lost ∨ r.input = none) →
      s.derivedMember m = ⟨.unknown, .unknown⟩) ∧
    (inService → ∀ r input, s.node m.hb ⟨m.k.val % 4, by omega⟩ = some r → r.link = .online → r.input = some input →
      ((s.derivedMember m).landed = if input.getLsbD at0 then .on else .off) ∧
      (s.derivedMember m).position = match input.getLsbD (at0 + 1), input.getLsbD (at0 + 2) with
        | true, false => .locked
        | false, true => .unlocked
        | false, false => .between
        | true, true => .conflict)

/-- R36, R37, R38, Table 2-7: an order enters CHECKED and leaves it in the same action. `hold` is the hold record's
member list on a resume. A spreader without a profile counts with turn timeout 0 (the model's choice, log 34). -/
def Obligations.CheckedGate : Prop :=
  ∀ (head : OrderHead) (hold : Option (List Member)) (s : State),
    let ms := s.group.members
    let fails := firstFailing
      [(decide (s.group.state ≠ .notReady), EndReason.notReady), (decide (∀ l ∈ hold, l = ms), .spreaderLost),
        (decide (s.group.state ≠ .fault), .groupFault),
        (decide (s.bypass ≠ none ∨ ∀ m ∈ ms, (s.member m).landed = .on), .notLanded)]
    let begun : OrderHead := { head with turningBegun := true }
    let atTarget := fun m : Member => (s.member m).position = match head.kind with
      | .lock => .locked
      | .unlock => .unlocked
    (∀ reason, fails = some reason → head.turningBegun = false →
      checkOrder head hold s =
        postAll [.orderStage .checked head, .orderStage .idle head, .orderEnd head .ended reason []]
          { s with order := .idle }) ∧
    (∀ reason, fails = some reason → head.turningBegun = true →
      let members := (hold.getD []).map fun m => (⟨m, .failed, false⟩ : OrderMember)
      checkOrder head hold s =
        postAll [.orderStage .checked head, .orderStage .faultHeld head,
            .orderEnd head .held reason ((hold.getD []).map fun m => (m, .failed))]
          { s with order := .faultHeld head members reason }) ∧
    (fails = none →
      let members := ms.map fun m => (⟨m, if atTarget m then .settling 0 else .offWait, false⟩ : OrderMember)
      let deadline := s.time + (ms.map fun m => ((s.attach.get m.hb).profile.map Profile.turnTimeout).getD 0).foldl max 0
      let settles := ∀ m ∈ ms, atTarget m
      checkOrder head hold s =
        postAll (if settles then
              [.orderStage .checked head, .orderStage .turning begun, .orderStage .settling begun]
            else [.orderStage .checked head, .orderStage .turning begun])
          (updatePairs (fun p r => if p ∈ ms.map Member.pair then { r with command := .bothOff } else r)
            { s with order := .active (if settles then .settling else .turning) begun members deadline }))

/-- R39 to R46, R94, R98 to R101: progress on a good reply of a node, already in the records. First one member of an
order; the span of replies in which its opposite coil counts as seen is a field of the member (log 24). Then what the
members' progress gives: the claims that change, the stage, and the ending DONE when every member is SETTLED. Then the
Spreader Setting Unit: the steps of a set operation, its completion and its aborts by a latch, by a landing and by the
loss of the body node, and the setting watch. SET_END for an undecided direction names TELESCOPING (log 21). -/
def Obligations.MemberProgress : Prop :=
  (∀ (s : State) (kind : OrderKind) (om : OrderMember) (profile : Profile),
    (s.attach.get om.member.hb).profile = some profile →
    let echo := s.echo om.member.pair
    let atTarget := (s.member om.member).position = kind.target
    let wait := if s.deadTimePassed om.member.pair kind.coil then Progress.driving else .deadWait
    let opposite := om.oppositeSeen = true ∨ echo = .on kind.coil.opposite ∨ echo = .bothOn
    let t := s.memberOnReply kind om
    t.member = om.member ∧
    (t.oppositeSeen = match om.progress with
      | .offWait => om.oppositeSeen && decide (echo ≠ .bothOff)
      | .deadWait | .failed => om.oppositeSeen
      | .driving => decide opposite
      | .settling _ | .settled => decide (atTarget ∧ opposite)) ∧
    t.progress = match om.progress with
      | .offWait => if echo = .bothOff then wait else .offWait
      | .deadWait => if echo.anyOn then .offWait else .deadWait
      | .driving => if atTarget then .settling 0 else .driving
      | .settling count =>
        if ¬atTarget then (if opposite then wait else .driving)
        else if echo ≠ .bothOff then .settling count
        else if profile.settleLimit ≤ count + 1 then .settled else .settling (count + 1)
      | .settled => if atTarget then .settled else if opposite then wait else .driving
      | .failed => .failed) ∧
  (∀ (s : State) (stage : ActiveStage) (head : OrderHead) (old new : List OrderMember) (deadline : Nat),
    s.order = .active stage head old deadline →
    let t := setProgress new s
    let after := if ∀ om ∈ new, om.progress = .settled ∨ om.progress.count? ≠ none then ActiveStage.settling
      else .turning
    let starts := fun p : PairId => decide (∃ e ∈ old.zip new,
      e.2.member.pair = p ∧ e.1.progress ≠ .driving ∧ e.2.progress = .driving)
    let stops := fun p : PairId => ∃ e ∈ old.zip new,
      e.2.member.pair = p ∧ e.1.progress = .driving ∧ e.2.progress ≠ .driving
    ((∀ om ∈ new, om.progress = .settled) →
      t.order = .idle ∧
      (∀ p, t.pair p = if ∃ om ∈ new, om.member.pair = p then
        { s.pair p with command := .bothOff, offMark := false } else s.pair p) ∧
      t.notices = (postAll [.orderStage .idle head,
        .orderEnd head .done .done (new.map fun om => (om.member, om.progress))] s).notices) ∧
    (¬(∀ om ∈ new, om.progress = .settled) →
      t.order = .active after head new deadline ∧
      t.pairs = (claimOn starts head.kind.coil
        (updatePairs (fun p r => if stops p then { r with command := .bothOff } else r)
          { s with order := .active after head new deadline })).pairs ∧
      t.notices = (postAll (if after = stage then [] else [.orderStage after.stage head]) s).notices) ∧
    keeps [.order, .pairs, .notices] s t) ∧
  ∀ (s : State) (hb : Headblock) (latching : List PairId) (input : Byte),
    let unit := s.setting.get hb
    let twin := (s.attach.get hb).descriptor.any Descriptor.twin
    let sensor := fun l : Length => input.getLsbD (match l with | .l20 => 0 | .l40 => 1 | .l45 => 2)
    let up := input.getLsbD 4 && !input.getLsbD 3
    let down := input.getLsbD 3 && !input.getLsbD 4
    let ends := fun (op : SetOp) (reason : SetReason) (step : StepName) (setting : Option Setting) =>
      compose (post (.setEnd hb reason op.target step setting) (updateSetting hb (fun _ => ⟨setting, 0, none⟩)
        (updatePairs (fun p r => if p.hb = hb ∧ 8 ≤ p.i.val then { r with command := .bothOff, offMark := false } else r) s)))
    let put := fun (op : SetOp) (phase : Phase) =>
      updateSetting hb (fun u => { u with op := some { op with phase := phase } }) s
    let waits := fun op : SetOp =>
      if s.deadTimePassed (op.step.pair hb) op.step.coil then
        claimOn (fun p => p = op.step.pair hb) op.step.coil (put op .driving)
      else put op .deadWait
    let begins := fun (op : SetOp) (step : SetStep) =>
      if (s.pair (step.pair hb)).offMark then waits { op with step := step } else put { op with step := step } .offWait
    let t := settingOnReply hb bodyNode latching input s
    (∀ op, unit.op = some op →
      let echo := s.echo (op.step.pair hb)
      ((∃ p ∈ latching, p.hb = hb ∧ 8 ≤ p.i.val) → t = ends op .coilFault op.step.name none) ∧
      (¬(∃ p ∈ latching, p.hb = hb ∧ 8 ≤ p.i.val) →
        (op.phase = .offWait → t = if echo = .bothOff then waits op else s) ∧
        (op.phase = .deadWait → t = if echo.anyOn then put op .offWait else s) ∧
        (op.phase = .driving → t =
          if (match op.step with | .gearUp => up | .telescoping _ => sensor op.target.length | .gearDown => down) then
            updatePairs (fun p r => if p = op.step.pair hb then { r with command := .bothOff } else r) (put op .stopping)
          else s) ∧
        (op.phase = .stopping → echo ≠ .bothOff → t = s) ∧
        (op.phase = .stopping → echo = .bothOff →
          let telescopes := op.step = .gearUp ∧ sensor op.target.length = false
          let lowers := op.step ≠ .gearDown ∧ twin = true ∧ op.target.mode = .twin ∧ down = false
          (telescopes →
            (∀ now, sensor now = true → (∀ l, l ≠ now → sensor l = false) →
              (now.feet < op.target.length.feet → t = begins op (.telescoping .extend)) ∧
              (op.target.length.feet < now.feet → t = begins op (.telescoping .retract))) ∧
            ((∀ now, ¬(sensor now = true ∧ ∀ l, l ≠ now → sensor l = false)) →
              t = ends op .positionUnknown .telescoping none)) ∧
          (¬telescopes → lowers → t = begins op .gearDown) ∧
          (¬telescopes → ¬lowers → t = ends op .none op.step.name (some op.target))))) ∧
    (∀ setting, unit.op = none → unit.setting = some setting → (s.attach.get hb).state = .armed →
      t = if sensor setting.length = true ∧
            (twin = true → input.getLsbD (match setting.mode with | .single => 4 | .twin => 3) = true) then
          updateSetting hb (fun u => { u with watch := 0 }) s
        else if unit.watch < 2 then updateSetting hb (fun u => { u with watch := unit.watch + 1 }) s
        else compose (updateSetting hb (fun u => { u with setting := none, watch := 0 }) s)) ∧
    (unit.op = none → (unit.setting = none ∨ (s.attach.get hb).state ≠ .armed) → t = s) ∧
    (∀ n : NodeIx, n.val < 4 → settingOnReply hb n latching input s = match unit.op with
      | some op =>
        if ∃ m ∈ nodeMembers hb n, (m.k.val < 4 ∨ twin = true) ∧ (s.member m).landed = .on then
          ends op .landed op.step.name none
        else s
      | none => s) ∧
    (∀ n : NodeIx, 4 < n.val → settingOnReply hb n latching input s = s) ∧
    ∀ n : NodeIx, settingNodeLost hb n s = match unit.op with
      | some op => if n = bodyNode then ends op .nodeLost op.step.name none else s
      | none => s

/-- R64, R66, R67, Tables 3-5 and 3-6: a drive claim is taken when its five checks pass and refused without a trace
otherwise. -/
def Obligations.DriveClaim : Prop :=
  ∀ (s : State) (named : PairId → Bool) (coil : Side) (p : PairId) (profile : Profile),
    (s.attach.get p.hb).profile = some profile →
    let t := claimOn named coil s
    let held :=
      if p.i.val < 8 then ∃ om ∈ s.order.activeMembers, om.member.pair = p ∧ om.progress = .driving
      else ∃ op, (s.setting.get p.hb).op = some op ∧
        p.i = (match op.step with | .telescoping _ => 8 | .gearUp | .gearDown => 9)
    let dead := if 8 ≤ p.i.val then profile.bodyDead else match coil with
      | .first => profile.lockDead
      | .second => profile.unlockDead
    let passed := ∀ at0, (s.pair p).lastOn coil.opposite = some at0 → dead ≤ (timeWord s.time - at0).toNat
    let allowed := s.trip.state = .clear ∧ held ∧ (s.pair p).command ≠ .on coil.opposite ∧
      (s.pair p).offMark = true ∧ passed
    (named p = true ∧ allowed → t.pair p = { s.pair p with command := .on coil }) ∧
    (¬(named p = true ∧ allowed) → t.pair p = s.pair p) ∧ keeps [.pairs] s t

/-- R4, R12, R53, R72, R83, R92, R101, R109, R110, R113, R118, R128, R137, R148: a change of attachment state and all
that it reaches. Whether a leave of bypass with a running order is taken before the composition is a free choice (log
14), which is counted (log 42); the order of the notices that no rule orders is the model's (log 12). -/
def Obligations.AttachmentChange : Prop :=
  ∀ (hb : Headblock) (f : Attach → Attach) (further : List NoticeBody) (s : State),
    let t := changeAttach hb f further s
    let left := (s.attach.get hb).state
    let entered := (f (s.attach.get hb)).state
    let off := left.supplyOn = true ∧ entered.supplyOn = false
    let departs := left = .armed ∧ entered ≠ .armed
    let leaves := departs ∧ s.bypass = some hb
    let changed := t.group.members ≠ s.group.members
    let meets := fun h : Headblock =>
      (t.attach.get h).state = .armed ∧ (t.setting.get h).op = none ∧ (t.setting.get h).setting ≠ none
    let leaveFirst := leaves ∧ s.order.runs = true ∧ Config.leaveFirst s.choices = true
    let held : Option (List OrderMember × EndReason) :=
      if leaveFirst then some (s.order.activeMembers, .bypassLeft)
      else if changed then some (s.order.activeMembers.map fun om =>
        if meets om.member.hb then om else { om with progress := .failed }, .spreaderLost)
      else if leaves then some (s.order.activeMembers, .bypassLeft)
      else none
    let orderEnds : List NoticeBody := match s.order, held with
      | .active _ head _ _, some (members, reason) => [.orderStage .faultHeld head,
          .orderEnd head .held reason (members.map fun om => (om.member, om.progress))]
      | .proposed head _, _ =>
        if leaves then [.orderStage .idle head, .orderEnd head .ended .bypassLeft []] else []
      | _, _ => []
    let setEnds : List NoticeBody := match (s.setting.get hb).op with
      | some op => if departs then [.setEnd hb .attachLost op.target op.step.name none] else []
      | none => []
    let bypassEnds : List NoticeBody := if leaves then [.bypassState false hb (some .attach)] else []
    (∀ h, t.attach.get h = if h = hb then f (s.attach.get hb) else s.attach.get h) ∧
    (∀ n, t.node hb n = if off then none else s.node hb n) ∧
    ((t.bus.get hb).urgent = if off then [] else (s.bus.get hb).urgent) ∧
    ((t.bus.get hb).flight =
      if off then (s.bus.get hb).flight.map (fun fl => { fl with discard := true }) else (s.bus.get hb).flight) ∧
    (t.bus.get hb).lastProbe = (s.bus.get hb).lastProbe ∧
    ((t.bus.get hb).transfer =
      if entered = .identified ∨ entered = .armed then (s.bus.get hb).transfer else none) ∧
    (t.awaitingOff = if off then s.awaitingOff.filter (fun p => p.hb ≠ hb) else s.awaitingOff) ∧
    t.trip = { s.trip with state := if s.awaitingOff ≠ [] ∧ t.awaitingOff = [] then
      (match s.trip.state with | .holding cause => .held cause | o => o) else s.trip.state } ∧
    (t.setting.get hb =
      if entered = .armed ∧ left ≠ .armed then ⟨t.derivedSetting hb, 0, (s.setting.get hb).op⟩
      else if departs then ⟨none, 0, none⟩ else s.setting.get hb) ∧
    (∀ m, t.member m = if m.hb = hb then t.derivedMember m else s.member m) ∧
    compose t = t ∧
    (t.order = match s.order, held with
      | .active _ head _ _, some (members, reason) => .faultHeld head members reason
      | .proposed head due, _ => if leaves then .idle else .proposed head due
      | o, _ => o) ∧
    (∀ p, t.pair p =
      if (held ≠ none ∧ ∃ om ∈ s.order.activeMembers, om.member.pair = p) ∨
          (departs ∧ (s.setting.get hb).op ≠ none ∧ p.hb = hb ∧ 8 ≤ p.i.val) then
        { s.pair p with command := .bothOff, offMark := false }
      else s.pair p) ∧
    (t.bypass = if leaves then none else s.bypass) ∧
    (t.choices = if leaves ∧ s.order.runs = true then s.choices + 1 else s.choices) ∧
    t.notices = (postAll (.attachState hb entered (some left)
        ((f (s.attach.get hb)).descriptor.map Descriptor.serial) :: further ++
      (if t.trip = s.trip then [] else [.holdState t.trip.state s.trip.pending s.trip.chainClosed s.trip.hold]) ++
      (if leaveFirst then bypassEnds ++ orderEnds ++ setEnds
        else if s.order.runs = true ∧ changed then orderEnds ++ setEnds ++ bypassEnds
        else setEnds ++ bypassEnds ++ orderEnds) ++
      (match (s.bus.get hb).transfer with
        | some d => if entered = .identified ∨ entered = .armed then [] else [.diagResult hb d .aborted]
        | none => [])) s).notices ∧
    (∀ h, h ≠ hb → t.bus.get h = s.bus.get h ∧ t.setting.get h = s.setting.get h) ∧
    keeps [.attach, .notices, .nodes, .traffic, .awaitingOff, .trip, .setting, .members, .memberList, .order, .pairs,
      .bypass] s t

/-- R140 to R143, Tables 8-6 and 8-7: what the arbiter begins while the bus is free. -/
def Obligations.ArbiterChoice : Prop :=
  ∀ (s : State) (hb : Headblock),
    let b := s.bus.get hb
    let t := arbitrate hb s
    let since := fun o : Option Nat => ∀ begun, o = some begun → begun + s.timing.period ≤ s.time
    let due := fun n : NodeIx => ∃ r, b.node n = some r ∧ since r.lastBegun
    let begins := fun (n : NodeIx) (kind : FrameKind) =>
      (t.bus.get hb).flight = some ⟨n, kind, .sending, 0, false, false, false, false⟩
    let exchanges := fun n : NodeIx => ∃ r, b.node n = some r ∧
      begins n (.exchange (if (s.attach.get hb).state = .armed then r.output else 0) (byte (s.timing.period / 5))) ∧
      t.node hb n = some { r with lastBegun := some s.time } ∧ (t.bus.get hb).urgent = b.urgent.filter (· ≠ n)
    let inService := (s.attach.get hb).state = .identified ∨ (s.attach.get hb).state = .armed
    (b.flight ≠ none → t = s) ∧
    (b.flight = none → ∀ c, (s.attach.get hb).census = some c →
      ((s.attach.get hb).state = .census ∨ ∃ prior, (s.attach.get hb).state = .reidentify prior) →
      begins c.node .identify) ∧
    (b.flight = none → ∀ prior, (s.attach.get hb).state = .linkDown prior →
      (since b.lastProbe → begins 4 .identify ∧ (t.bus.get hb).lastProbe = some s.time) ∧
      (¬since b.lastProbe → t = s)) ∧
    (b.flight = none → inService → ∀ n rest, b.urgent = n :: rest → b.node n ≠ none → exchanges n) ∧
    (b.flight = none → inService → b.urgent = [] →
      (∀ d n, b.transfer = some d → due n → s.timing.share = .shared → since d.rowTwo →
        begins d.node (.diagRead (byte d.next)) ∧ (t.bus.get hb).transfer = some { d with rowTwo := some s.time }) ∧
      (∀ n, due n → (∀ m, m < n → ¬due m) →
        (∀ d, b.transfer = some d → s.timing.share = .idleOnly ∨ ¬since d.rowTwo) → exchanges n) ∧
      (∀ d, b.transfer = some d → (∀ n, ¬due n) → begins d.node (.diagRead (byte d.next))) ∧
      (b.transfer = none → (∀ n, ¬due n) → t = s)) ∧
    (¬inService → (∀ prior, (s.attach.get hb).state ≠ .linkDown prior) → (s.attach.get hb).state ≠ .census →
      (∀ prior, (s.attach.get hb).state ≠ .reidentify prior) → t = s) ∧
    keeps [.traffic] s t

/-! ## Requests: arrival and framing -/

/-- R163, R164, R165: a frame with TAG 0 is discarded; a request that finds four is discarded with OVERRUN; one that
finds a reply in hand waits. -/
def Obligations.Arrival : Prop :=
  ∀ (i : Instr) (q : Request) (s : State), requestOf i = some q →
    (q.tag = 0 → exec i s = .next (finish s (post (.frameDiscarded .tag none (some q.kind)) s))) ∧
    (q.tag ≠ 0 → 4 ≤ s.link.queue.length →
      exec i s = .next (finish s (post (.frameDiscarded .overrun (some q.tag) (some q.kind)) s))) ∧
    (q.tag ≠ 0 → s.link.queue.length < 4 → s.link.reply ≠ none →
      exec i s = .next (finish s { s with link := { s.link with queue := s.link.queue ++ [q] } }))

/-- R165: the last byte of an ordinary reply is sent; the next request is taken in the same action, and is answered as
if it arrived at that moment. That a refused RESTART lets the next request be taken is the model's reading (log 25).
REPLY_SENT with no reply on the line changes nothing (the model's choice, log 2). -/
def Obligations.ReplySent : Prop :=
  ∀ s : State,
    (s.link.tx ≠ .reply → exec .replySent s = .next (finish s s)) ∧
    ∀ r q0, s.link.tx = .reply → s.link.reply = some r → ¬(r.kind = 0x04 ∧ r.status = .ok) →
      (s.link.queue = [q0] →
        exec .replySent s = .next (finish s { s with link := { s.link with queue := [], reply := none, tx := .idle } })) ∧
      (∀ i q, requestOf i = some q → q.tag ≠ 0 → s.link.queue = [q0, q] →
        exec .replySent s = exec i { s with link := { s.link with queue := [], reply := none, tx := .idle } }) ∧
      ∀ q rest, s.link.queue = q0 :: q :: rest →
        let u := { s with link := { s.link with queue := q :: rest, reply := none, tx := .idle } }
        let a := answerRequest q.kind q.body u
        exec .replySent s = .next (finish s (putReply ⟨q.tag, q.kind, a.status, a.values⟩ a.state))

/-- R165, Table 10-6: a KIND that is no request kind is refused with UNKNOWN_KIND, a body of another length than the
table's with BAD_LENGTH. -/
def Obligations.Framing : Prop :=
  ∀ (s : State) (tag kind : Byte) (body : List Byte), Free s → tag ≠ 0 →
    let length := match kind.toNat with
      | 0x03 => 8
      | 0x18 => 3
      | 0x20 => 16
      | 0x29 => 4
      | 0x30 => 2
      | 0x04 | 0x08 | 0x10 | 0x11 | 0x21 | 0x22 | 0x23 | 0x24 | 0x25 | 0x28 | 0x31 => 1
      | _ => 0
    (isRequestKind kind = false → refuses (.unknownKind tag kind body) s .unknownKind) ∧
    (isRequestKind kind = true → body.length ≠ length → refuses (.unknownKind tag kind body) s .badLength)

/-! ## Requests: reading -/

/-- R168, Table 10-4; the silicon revision is a free value of the part (log 9). -/
def Obligations.IdentifyPart : Prop :=
  ∀ (s : State) (tag : Byte), Free s → tag ≠ 0 →
    answers (.identifyPart tag) s .ok
      [0x0D, 0x41, 0x03, 0x04, Config.siliconRevision, 1, 4, 24, 32, 16, 2, 7, 8, 250] id

/-- R169, in the coding of R166 (log 10, log 11). -/
def Obligations.GetStatus : Prop :=
  ∀ (s : State) (tag : Byte), Free s → tag ≠ 0 →
    let permit := fun (level : Bool) (cause : Option PermitCause) =>
      flag level :: optional 1 (if level then none else cause.map fun c => [c.code])
    let head := fun hb : Headblock =>
      (s.attach.get hb).state.bytes ++ [if (s.attach.get hb).plug then 0 else 1, flag (s.attach.get hb).state.supplyOn] ++
        settingBytes (s.setting.get hb).setting ++ optional 4 ((s.setting.get hb).op.map fun op =>
          [op.target.length.code, op.target.mode.code, op.step.name.code, op.phase.code])
    let level := fun i : CabInput => match (s.cabIn i).level with
      | some true => (0 : Byte)
      | some false => 1
      | none => 2
    answers (.getStatus tag) s .ok
      (be32 (timeWord s.time) ++ [s.mode.code, s.authority.code] ++
        [s.trip.state.code] ++ optional 1 (s.trip.state.cause?.map fun c => [c.code]) ++
        [flag s.trip.pending, flag s.trip.chainClosed] ++
        [flag s.bypass.isSome] ++ optional 1 (s.bypass.map fun hb => [headblockCode hb]) ++
        permit s.permits.up s.upCause ++ permit s.permits.down s.downCause ++
        [s.group.state.code, s.group.summary.code, s.order.stage.code] ++
        head .a ++ head .b ++ [level .bypassKey, level .gp1, level .gp2, level .gp3, level .gp4] ++
        [byte s.timing.period, s.timing.share.code] ++ be16 (BitVec.ofNat 16 s.timing.powerUp) ++
        be16 (BitVec.ofNat 16 s.timing.powerDown) ++ [byte s.timing.confirm, byte s.timing.debounce] ++
        [flag s.notices.overrun]) id

/-- R22 and R23, Table 10-3, in the coding of R166 (log 11): neither request changes anything. -/
def Obligations.ReadMembersAndGroup : Prop :=
  ∀ (s : State) (tag : Byte), Free s → tag ≠ 0 →
    let progress := fun m : Member => match s.order with
      | .active _ _ oms _ | .faultHeld _ oms _ => (oms.find? fun om : OrderMember => om.member = m).map OrderMember.progress
      | _ => none
    let record := fun m : Member =>
      [memberCode m, (s.member m).landed.code, (s.member m).position.code, if m ∈ s.group.members then 1 else 0,
        (s.pair m.pair).command.code, (s.echo m.pair).code, if (s.pair m.pair).fault then 1 else 0,
        match progress m with | some p => p.code | none => 6,
        match progress m with | some (.settling n) => byte n | _ => 0]
    let cause := fun m : Member =>
      if (s.member m).position = .unknown then some (0 : Byte)
      else if (s.member m).position = .conflict then some 1
      else if (s.pair m.pair).fault then some 2 else none
    let faults := if s.group.state = .fault then
      s.group.members.filterMap fun m => (cause m).map fun c => [memberCode m, c] else []
    let reason := fun hb : Headblock =>
      if s.group.state = .notReady ∧ (hb = .a ∧ s.mode ≠ .soloB ∨ hb = .b ∧ s.mode ≠ .soloA) then
        some [if (s.attach.get hb).state ≠ .armed then (0 : Byte) else if (s.setting.get hb).op ≠ none then 1
          else if (s.setting.get hb).setting = none then 2 else 3]
      else none
    let permit := fun (level : Bool) (cause : Option PermitCause) =>
      flag level :: optional 1 (if level then none else cause.map fun c => [c.code])
    answers (.readMembers tag) s .ok (allMembers.flatMap record) id ∧
    answers (.readGroup tag) s .ok
      ([s.mode.code, s.group.state.code, s.group.summary.code] ++
        byte s.group.members.length :: s.group.members.map memberCode ++
        byte faults.length :: faults.flatten ++ optional 1 (reason .a) ++ optional 1 (reason .b) ++
        permit s.permits.up s.upCause ++ permit s.permits.down s.downCause) id

/-- R117 and R145, in the coding of R166 (log 11), the images as they were received (log 44): neither request changes
anything. -/
def Obligations.ReadDescriptorAndNodes : Prop :=
  ∀ (s : State) (tag : Byte), Free s → tag ≠ 0 →
    (∀ b : Byte, 1 < b.toNat → refuses (.readDescriptor tag b) s .range ∧ refuses (.readNodes tag b) s .range) ∧
    ∀ hb : Headblock,
      let a := s.attach.get hb
      let bus := s.bus.get hb
      let record := fun n : NodeIx => match s.node hb n with
        | none => List.replicate 14 (0 : Byte)
        | some r => (match r.link with | .online => 1 | .lost => 2) :: 1 :: r.kind.code :: byte r.misses.val ::
            be32 (timeWord r.lastGood) ++ optional 1 (r.input.map ([·])) ++ optional 1 (r.echo.map ([·])) ++
            [r.output, flag r.restarted ||| (flag r.supplyLow <<< 1)]
      (match a.descriptor with
        | none => refuses (.readDescriptor tag (headblockCode hb)) s .state
        | some d => answers (.readDescriptor tag (headblockCode hb)) s .ok
            (be32 d.serial ++ be16 d.model ++ [d.revision, flag d.twin] ++
              counted ((if d.len20 then [[20]] else []) ++ (if d.len40 then [[40]] else []) ++
                (if d.len45 then [[45]] else [])) ++
              counted (d.nodes.map fun e => [byte (e.1.val + 1), e.2.code]) ++ a.state.bytes ++
              [flag a.profile.isSome]) id) ∧
      answers (.readNodes tag (headblockCode hb)) s .ok
        (a.state.bytes ++ [byte s.timing.period, s.timing.share.code] ++
          byte bus.urgent.length :: bus.urgent.map (fun n => byte (n.val + 1)) ++
          record 0 ++ record 1 ++ record 2 ++ record 3 ++ record 4 ++ record 5 ++ record 6 ++
          match bus.transfer with
          | none => [0, 0, 0, 0, 0, 0, 0]
          | some d => [1, byte (d.node.val + 1), byte d.first, byte d.count, byte d.next, byte d.attempt, byte d.received])
        id

/-! ## Requests: settings, mode, authority -/

/-- R170, Table 10-5. -/
def Obligations.SetTiming : Prop :=
  ∀ (s : State) (tag period share : Byte) (powerUp powerDown : Half) (confirm debounce : Byte), Free s → tag ≠ 0 →
    judged (.setTiming tag period share powerUp powerDown confirm debounce) s
      [(decide ((20 ≤ period.toNat ∧ period.toNat ≤ 200 ∧ period.toNat % 5 = 0) ∧ share.toNat ≤ 1 ∧
          (100 ≤ powerUp.toNat ∧ powerUp.toNat ≤ 5000 ∧ powerUp.toNat % 10 = 0) ∧
          (100 ≤ powerDown.toNat ∧ powerDown.toNat ≤ 5000 ∧ powerDown.toNat % 10 = 0) ∧
          (1 ≤ confirm.toNat ∧ confirm.toNat ≤ 30) ∧ 10 ≤ debounce.toNat ∧ debounce.toNat ≤ 200), .range),
        (decide (s.order.stage ≠ .faultHeld), .held),
        (decide (s.order = .idle ∧ ∀ hb ∈ headblocks, (s.setting.get hb).op = none), .busy)]
      (answers (.setTiming tag period share powerUp powerDown confirm debounce) s .ok [] fun u =>
        { u with timing := ⟨period.toNat, if share = 0 then .idleOnly else .shared, powerUp.toNat, powerDown.toNat,
          confirm.toNat, debounce.toNat⟩ })

/-- R8, R9, Table 1-5. -/
def Obligations.SetTrolleyMode : Prop :=
  ∀ (s : State) (tag : Byte), Free s → tag ≠ 0 →
    (∀ b : Byte, 2 < b.toNat → refuses (.setTrolleyMode tag b) s .range) ∧
    ∀ mode : TrolleyMode, judged (.setTrolleyMode tag mode.code) s
      [(decide (s.trip.state = .clear), .hold), (decide (s.order.stage ≠ .faultHeld), .held),
        (decide (s.order = .idle), .busy), (decide (s.bypass = none), .state),
        (decide (∀ hb ∈ headblocks, (s.setting.get hb).op = none), .busy),
        (decide (s.group.state = .notReady ∨ s.group.state = .allUnlocked ∧ s.group.summary = .none), .locked)]
      (answers (.setTrolleyMode tag mode.code) s .ok [] fun u =>
        if mode = s.mode then u else compose { u with mode := mode })

/-- R28. -/
def Obligations.SetAuthority : Prop :=
  ∀ (s : State) (tag : Byte), Free s → tag ≠ 0 →
    (∀ b : Byte, 2 < b.toNat → refuses (.setAuthority tag b) s .range) ∧
    ∀ authority : Authority, judged (.setAuthority tag authority.code) s
      [(decide (s.order.stage ≠ .faultHeld), .held), (decide (s.order = .idle), .busy)]
      (answers (.setAuthority tag authority.code) s .ok [] fun u => { u with authority := authority })

/-! ## Requests: orders and the hold -/

/-- R29, R30, Table 2-5; the course of CHECKED is `CheckedGate`'s. -/
def Obligations.OrderRequest : Prop :=
  ∀ (s : State) (tag : Byte), Free s → tag ≠ 0 →
    (∀ b : Byte, 1 < b.toNat → refuses (.order tag b) s .range) ∧
    ∀ kind : OrderKind,
      let head : OrderHead := ⟨kind, .link, false⟩
      judged (.order tag kind.code) s
        [(decide (s.authority ≠ .cabOnly), .authority), (decide (s.trip.state = .clear), .hold),
          (decide (s.order.stage ≠ .faultHeld), .held), (decide (s.order = .idle), .busy),
          (decide (s.group.state ≠ .notReady), .state)]
        ((s.authority = .linkWithConfirm → answers (.order tag kind.code) s .accepted [] fun u =>
            post (.orderStage .proposed head) { u with order := .proposed head (s.time + s.timing.confirm * 1000) }) ∧
          (s.authority = .linkOnly → answers (.order tag kind.code) s .accepted [] (checkOrder head none)))

/-- R55, R89, Table 2-10. -/
def Obligations.Abandon : Prop :=
  ∀ (s : State) (tag : Byte), Free s → tag ≠ 0 →
    match s.order with
    | .idle | .faultHeld _ _ _ => refuses (.abandon tag) s .state
    | .proposed head _ => answers (.abandon tag) s .ok [] fun u =>
        postAll [.orderStage .idle head, .orderEnd head .ended .linkAbandon []] { u with order := .idle }
    | .active _ head members _ => answers (.abandon tag) s .ok [] fun u =>
        postAll [.orderStage .faultHeld head,
            .orderEnd head .held .linkAbandon (members.map fun om => (om.member, om.progress))]
          (updatePairs (fun p r =>
              if ∃ om ∈ members, om.member.pair = p then { r with command := .bothOff, offMark := false } else r)
            { u with order := .faultHeld head members .linkAbandon })
    | .suspended head =>
      let members := (s.trip.hold.map HoldRec.members).getD []
      answers (.abandon tag) s .ok [] fun u =>
        postAll [.orderStage .faultHeld head,
            .orderEnd head .held .holdAbandoned (members.map fun m => (m, .failed))]
          { u with order := .faultHeld head (members.map fun m => ⟨m, .failed, false⟩) .holdAbandoned
                   trip := { u.trip with hold := none } }

/-- R58, R71: CLEAR_FAULTS; the reply lists what is still latched. That a pair not latched loses its mismatch count too
is the model's reading (log 40). -/
def Obligations.ClearFaults : Prop :=
  ∀ (s : State) (tag : Byte), Free s → tag ≠ 0 →
    let agrees := fun p : PairId => s.echo p = (s.pair p).command.echo
    let still := fun p : PairId => (s.pair p).fault && !decide (agrees p)
    let bodies := [telescope .a, twinGear .a, telescope .b, twinGear .b].filter still
    let values := counted ((allMembers.filter fun m => still m.pair).map fun m => [memberCode m]) ++
      counted (bodies.map fun p => [pairCode p])
    let clear := updatePairs fun p r => if agrees p then { r with fault := false, mismatch := false } else r
    match s.order with
    | .proposed _ _ | .active _ _ _ _ => refuses (.clearFaults tag) s .busy
    | .suspended _ => refuses (.clearFaults tag) s .hold
    | .idle => answers (.clearFaults tag) s .ok values clear
    | .faultHeld head _ _ => answers (.clearFaults tag) s .ok values fun u =>
        clear (post (.orderStage .idle head) { u with order := .idle })

/-- R85, R86, R87, Table 4-3. HOLD_STATE for CLEAR carries the hold record as it is still filled (log 13). -/
def Obligations.Resume : Prop :=
  ∀ (s : State) (tag : Byte), Free s → tag ≠ 0 →
    judged (.resume tag) s
      [(decide (s.trip.state ≠ .clear), .state),
        (decide (s.trip.state ≠ .holding .trip ∧ s.trip.state ≠ .holding .start), .state),
        (s.trip.chainClosed, .tripOpen)]
      ((s.trip.pending = true → answers (.resume tag) s .retrip [] fun u =>
          let v := post (.holdState (.holding .trip) false true s.trip.hold)
            (updatePairs (fun _ r => { r with command := .bothOff })
              { u with awaitingOff := s.awaitingOffOf, trip := { u.trip with state := .holding .trip, pending := false } })
          if s.awaitingOffOf = [] then
            post (.holdState (.held .trip) false true s.trip.hold) { v with trip := { v.trip with state := .held .trip } }
          else v) ∧
        (s.trip.pending = false → answers (.resume tag) s .ok [] fun u =>
          let v := post (.holdState .clear false true s.trip.hold)
            { u with trip := { u.trip with state := .clear, pending := false }, awaitingOff := [] }
          match s.trip.hold with
          | none => v
          | some h => checkOrder ⟨h.kind, h.origin, h.turningBegun⟩ (some h.members)
              { v with trip := { v.trip with hold := none } }))

/-- R105, R106, R109, R53, Tables 6-2 and 6-3. -/
def Obligations.BypassRequests : Prop :=
  ∀ (s : State) (tag : Byte), Free s → tag ≠ 0 →
    let named : Headblock := if s.mode = .soloB then .b else .a
    judged (.bypassEnter tag) s
      [(decide (s.trip.state = .clear), .hold), (decide (s.bypass = none), .state),
        (decide ((s.cabIn .bypassKey).level = some true), .key), (decide (s.mode ≠ .tandem), .state),
        (decide ((s.attach.get named).state = .armed), .notArmed), (decide (s.order = .idle), .busy)]
      (answers (.bypassEnter tag) s .ok [] fun u =>
        post (.bypassState true named none) { u with bypass := some named }) ∧
    (s.bypass = none → refuses (.bypassExit tag) s .state) ∧
    ∀ hb, s.bypass = some hb → answers (.bypassExit tag) s .ok [] fun u =>
      let left := NoticeBody.bypassState false hb (some .request)
      match s.order with
      | .proposed head _ => postAll [left, .orderStage .idle head, .orderEnd head .ended .bypassLeft []]
          { u with bypass := none, order := .idle }
      | .active _ head members _ =>
        postAll [left, .orderStage .faultHeld head,
            .orderEnd head .held .bypassLeft (members.map fun om => (om.member, om.progress))]
          (updatePairs (fun p r =>
              if ∃ om ∈ members, om.member.pair = p then { r with command := .bothOff, offMark := false } else r)
            { u with bypass := none, order := .faultHeld head members .bypassLeft })
      | .idle | .suspended _ | .faultHeld _ _ _ => post left { u with bypass := none }

/-! ## Requests: setting and attachment -/

/-- R95 to R99, Tables 5-4 and 5-5. The premise `CoilsHeld` is `StepKeepsCoilsHeld`'s: no off mark stands on a pair that
nothing holds. That a SET_SPREADER that needs no step leaves the watch count is the model's choice (log 37), that
SET_END for an undecided direction names TELESCOPING too (log 21), and that the set timeout is 0 where no profile is
held (log 34). -/
def Obligations.SetSpreader : Prop :=
  ∀ (s : State) (tag : Byte), Free s → tag ≠ 0 → CoilsHeld s →
    (∀ b l m : Byte, (1 < b.toNat ∨ l.toNat ∉ [20, 40, 45] ∨ 1 < m.toNat) → refuses (.setSpreader tag b l m) s .range) ∧
    ∀ (hb : Headblock) (target : Setting),
      let request := Instr.setSpreader tag (headblockCode hb) target.length.code target.mode.code
      let d := (s.attach.get hb).descriptor
      let twin := d.any Descriptor.twin
      let involved := (match s.order with
        | .proposed _ _ => decide (hb = .a ∧ s.mode ≠ .soloB ∨ hb = .b ∧ s.mode ≠ .soloA)
        | .active _ _ members _ => members.any fun om => om.member.hb = hb
        | .suspended _ => s.trip.hold.any fun h => h.members.any fun m => m.hb = hb
        | _ => false) || (s.setting.get hb).op.isSome
      let served := (membersOf hb).filter fun m => m.k.val < 4 || twin
      let timeout := ((s.attach.get hb).profile.map Profile.setTimeout).getD 0
      judged request s
        [(decide ((s.attach.get hb).state = .armed), .notArmed), (decide (s.trip.state = .clear), .hold),
          (!involved, .busy),
          (d.any fun d => d.supports target.length &&
            decide (target.mode = .single ∨ target.length = .l40 ∧ d.twin = true), .modeInvalid),
          (decide (∀ m ∈ served, (s.member m).landed ≠ .on), .landed),
          (decide (∀ m ∈ served, (s.member m).position = .unlocked), .locked)]
        (((∀ r, s.node hb bodyNode = some r → r.link = .lost ∨ r.input = none) →
            answers request s .accepted [] fun u =>
              compose (post (.setEnd hb .nodeLost target .none none) (updateSetting hb (fun _ => ⟨none, 0, none⟩) u))) ∧
          ∀ r input, s.node hb bodyNode = some r → r.link = .online → r.input = some input →
            let sensor := fun l : Length => input.getLsbD (match l with | .l20 => 0 | .l40 => 1 | .l45 => 2)
            let up := input.getLsbD 4 && !input.getLsbD 3
            let down := input.getLsbD 3 && !input.getLsbD 4
            let needUp := twin && !up && (decide (target.mode = .single) || !sensor target.length)
            let needDown := twin && decide (target.mode = .twin) && !down
            let starts := fun step : SetStep => answers request s .accepted [] fun u =>
              compose (updateSetting hb (fun _ => ⟨none, 0, some ⟨target, step, .offWait, s.time + timeout * 1000⟩⟩) u)
            if needUp then starts .gearUp
            else if !sensor target.length then
              (∀ now, sensor now = true → (∀ l, l ≠ now → sensor l = false) →
                (now.feet < target.length.feet → starts (.telescoping .extend)) ∧
                (target.length.feet < now.feet → starts (.telescoping .retract))) ∧
              ((∀ now, ¬(sensor now = true ∧ ∀ l, l ≠ now → sensor l = false)) →
                answers request s .accepted [] fun u =>
                  compose (post (.setEnd hb .positionUnknown target .telescoping none)
                    (updateSetting hb (fun _ => ⟨none, 0, none⟩) u)))
            else if needDown then starts .gearDown
            else answers request s .accepted [] fun u =>
              compose (post (.setEnd hb .none target .none (some target))
                (updateSetting hb (fun v => { v with setting := some target }) u)))

/-- R120, Tables 7-5 and 7-6. -/
def Obligations.LoadProfile : Prop :=
  ∀ (s : State) (tag headblock presence : Byte) (serial : Word) (lockDead unlockDead bodyDead turn : Half)
      (settle setTimeout : Byte), Free s → tag ≠ 0 →
    let request := fun b =>
      Instr.loadProfile tag b presence serial lockDead unlockDead bodyDead turn settle setTimeout
    let dead := fun h : Half => h.toNat ≤ 500 ∧ h.toNat % 10 = 0
    let inRanges := (presence = 1 ∨ presence = 0 ∧ serial = 0) ∧ dead lockDead ∧ dead unlockDead ∧ dead bodyDead ∧
      (200 ≤ turn.toNat ∧ turn.toNat ≤ 10000) ∧ (1 ≤ settle.toNat ∧ settle.toNat ≤ 20) ∧
      2 ≤ setTimeout.toNat ∧ setTimeout.toNat ≤ 90
    (1 < headblock.toNat ∨ ¬inRanges → refuses (request headblock) s .range) ∧
    (inRanges → ∀ hb : Headblock,
      let armed := (s.attach.get hb).state = .armed
      let involved := (match s.order with
        | .proposed _ _ => decide (hb = .a ∧ s.mode ≠ .soloB ∨ hb = .b ∧ s.mode ≠ .soloA)
        | .active _ _ members _ => members.any fun om => om.member.hb = hb
        | .suspended _ => s.trip.hold.any fun h => h.members.any fun m => m.hb = hb
        | _ => false) || (s.setting.get hb).op.isSome
      judged (request (headblockCode hb)) s
        [(decide ((s.attach.get hb).state = .identified ∨ armed), .state), (!decide armed || !involved, .busy),
          (!decide armed || presence = 0 ||
            (s.attach.get hb).descriptor.any fun d => decide (d.serial = serial), .profileMismatch)]
        (answers (request (headblockCode hb)) s .ok [] fun u =>
          updateAttach hb (fun a =>
            { a with profile := some ⟨if presence = 1 then some serial else none, lockDead.toNat, unlockDead.toNat,
              bodyDead.toNat, turn.toNat, settle.toNat, setTimeout.toNat⟩ }) u))

/-- R121, R71: ARM; what the change of state reaches is `AttachmentChange`'s, and mismatch counts go with the latches
(log 40). -/
def Obligations.ArmRequest : Prop :=
  ∀ (s : State) (tag : Byte), Free s → tag ≠ 0 →
    (∀ b : Byte, 1 < b.toNat → refuses (.arm tag b) s .range) ∧
    ∀ hb : Headblock, judged (.arm tag (headblockCode hb)) s
      [(decide ((s.attach.get hb).state = .identified), .state), (decide ((s.attach.get hb).profile ≠ none), .state),
        ((s.attach.get hb).profile.all fun p => p.expected.all fun serial =>
          (s.attach.get hb).descriptor.any fun d => decide (d.serial = serial), .profileMismatch)]
      (answers (.arm tag (headblockCode hb)) s .ok [] fun u =>
        changeAttach hb (fun a => { a with state := .armed }) []
          (updatePairs (fun p r => if p.hb = hb then { r with fault := false, mismatch := false } else r) u))

/-- R122, R123, R124: DISARM, RELEASE and ATTACH; what the change of state reaches is `AttachmentChange`'s. -/
def Obligations.DisarmReleaseAttach : Prop :=
  ∀ (s : State) (tag : Byte), Free s → tag ≠ 0 →
    (∀ b : Byte, 1 < b.toNat →
      refuses (.disarm tag b) s .range ∧ refuses (.release tag b) s .range ∧ refuses (.attach tag b) s .range) ∧
    ∀ hb : Headblock,
      let a := s.attach.get hb
      let involved := (match s.order with
        | .proposed _ _ => decide (hb = .a ∧ s.mode ≠ .soloB ∨ hb = .b ∧ s.mode ≠ .soloA)
        | .active _ _ members _ => members.any fun om => om.member.hb = hb
        | .suspended _ => s.trip.hold.any fun h => h.members.any fun m => m.hb = hb
        | _ => false) || (s.setting.get hb).op.isSome
      let unlocked := decide (∀ m ∈ membersOf hb, m.k.val < 4 ∨ a.descriptor.any Descriptor.twin = true →
        (s.member m).position = .unlocked)
      let armed := decide (a.state = .armed)
      let downTo := fun next : Next => changeAttach hb (fun a =>
        { a with state := .releasing next, descriptor := none, profile := none, census := none
                 delayEnd := some (s.time + s.timing.powerDown) }) []
      judged (.disarm tag (headblockCode hb)) s [(armed, .state), (!involved, .busy), (unlocked, .locked)]
        (answers (.disarm tag (headblockCode hb)) s .ok [] (changeAttach hb (fun a => { a with state := .identified }) [])) ∧
      judged (.release tag (headblockCode hb)) s
        [(decide (a.state ≠ .empty ∧ a.state ≠ .off ∧ ∀ next ∈ [Next.empty, .off, .powering], a.state ≠ .releasing next), .state),
          (!armed || !involved, .busy), (!armed || unlocked, .locked)]
        (answers (.release tag (headblockCode hb)) s .ok [] (downTo (if a.plug then .off else .empty))) ∧
      match a.state with
      | .off => answers (.attach tag (headblockCode hb)) s .ok [] (changeAttach hb (fun a =>
          { a with state := .powering, delayEnd := some (s.time + s.timing.powerUp) }) [])
      | .attachFault _ => answers (.attach tag (headblockCode hb)) s .ok [] (downTo .powering)
      | _ => refuses (.attach tag (headblockCode hb)) s .state

/-- R146, Table 8-8. -/
def Obligations.ReadNodeDiag : Prop :=
  ∀ (s : State) (tag headblock address first count : Byte), Free s → tag ≠ 0 →
    let valid := (1 ≤ address.toNat ∧ address.toNat ≤ 7) ∧ (1 ≤ count.toNat ∧ count.toNat ≤ 8) ∧
      first.toNat + count.toNat ≤ 256
    (1 < headblock.toNat ∨ ¬valid → refuses (.readNodeDiag tag headblock address first count) s .range) ∧
    (valid → ∀ (hb : Headblock) (n : NodeIx), address.toNat = n.val + 1 →
      judged (.readNodeDiag tag (headblockCode hb) address first count) s
        [(decide ((s.attach.get hb).state = .identified ∨ (s.attach.get hb).state = .armed), .state),
          (((s.bus.get hb).node n).any fun r => decide (r.link = .online), .state),
          (decide ((s.bus.get hb).transfer = none), .busy)]
        (answers (.readNodeDiag tag (headblockCode hb) address first count) s .accepted [] fun u =>
          updateBus hb (fun b =>
            { b with transfer := some ⟨n, first.toNat, count.toNat, first.toNat, 1, 0, [], none⟩ }) u))

/-- R177: the three requests of the watch table. -/
def Obligations.WatchRequests : Prop :=
  ∀ (s : State) (tag signal edge : Byte), Free s → tag ≠ 0 →
    let values := fun ws : List Watch => byte ws.length :: ws.flatMap fun w =>
      [byte w.signal, match w.edge with | .rise => (0 : Byte) | .fall => 1 | .both => 2]
    let sets := fun ws : List Watch => fun u : State => { u with watches := ws }
    let known := ∃ w ∈ s.watches, w.signal = signal.toNat
    (102 < signal.toNat ∨ 2 < edge.toNat → refuses (.watchSet tag signal edge) s .range) ∧
    (signal.toNat ≤ 102 → ∀ e, edge.toNat = (match e with | .rise => 0 | .fall => 1 | .both => 2) →
      (known →
        let ws := s.watches.map fun w => if w.signal = signal.toNat then ⟨w.signal, e⟩ else w
        answers (.watchSet tag signal edge) s .ok (values ws) (sets ws)) ∧
      (¬known → s.watches.length < 32 →
        let ws := s.watches ++ [⟨signal.toNat, e⟩]
        answers (.watchSet tag signal edge) s .ok (values ws) (sets ws)) ∧
      (¬known → 32 ≤ s.watches.length → refuses (.watchSet tag signal edge) s .full)) ∧
    (signal.toNat ≤ 102 →
      let ws := s.watches.filter fun w => w.signal ≠ signal.toNat
      answers (.watchClear tag signal) s .ok (values ws) (sets ws)) ∧
    (signal = 255 → answers (.watchClear tag signal) s .ok (values []) (sets [])) ∧
    (102 < signal.toNat → signal ≠ 255 → refuses (.watchClear tag signal) s .range) ∧
    answers (.watchList tag) s .ok (values s.watches) id

/-! ## The link line -/

/-- R162, R163: what a received byte does; a frame's last CHECK byte and every other byte are judged by their place in
the stream alone (log 1). A gap of more than 5 ms inside a frame discards it, at 5 ms after its last byte (log 30);
outside a frame it changes nothing (log 2). -/
def Obligations.ReceiveLine : Prop :=
  ∀ (s : State) (b : Byte), ∀ i ∈ [Instr.linkFrameReceived b, .linkByteReceived b],
    let heard := fun rx : Receiver => { s with link := { s.link with rx := rx, lastByte := s.time } }
    (s.link.rx = .hunting → b ≠ 0xC3 → exec i s = .next (finish s s)) ∧
    (s.link.rx = .hunting → b = 0xC3 → exec i s = .next (finish s (heard .length))) ∧
    (s.link.rx = .length → 2 ≤ b.toNat → b.toNat ≤ 252 →
      exec i s = .next (finish s (heard (.receiving b.toNat [])))) ∧
    (s.link.rx = .length → (b.toNat < 2 ∨ 252 < b.toNat) →
      exec i s = .next (finish s (post (.frameDiscarded .length none none) (heard .hunting)))) ∧
    (∀ length got, s.link.rx = .receiving length got →
      (got.length + 1 < length + 2 → exec i s = .next (finish s (heard (.receiving length (got ++ [b]))))) ∧
      ∀ tag kind body check, got ++ [b] = tag :: kind :: body ++ check → check.length = 2 → length = body.length + 2 →
        let sum := crc16 (byte length :: tag :: kind :: body)
        (check ≠ be16 sum →
          exec i s = .next (finish s (post (.frameDiscarded .check none none) (heard .hunting)))) ∧
        (check = be16 sum → tag = 0 →
          exec i s = .next (finish s (post (.frameDiscarded .tag none (some kind)) (heard .hunting)))) ∧
        (check = be16 sum → ∀ c, requestOf c = some ⟨tag, kind, body⟩ → exec i s = exec c (heard .hunting))) ∧
    (s.link.rx = .hunting → exec .linkByteGap s = .next (finish s s)) ∧
    (s.link.rx ≠ .hunting →
      exec .linkByteGap s = .next (finish s (post (.frameDiscarded .length none none)
        { s with time := max s.time (s.link.lastByte + 5)
                 link := { s.link with rx := .hunting, lastByte := max s.time (s.link.lastByte + 5) } })))

/-! ## Starts -/

/-- R171, R172, R173, with the tables of every chapter: the reply to RESTART; POWER_ON; the restart that takes effect
when the OK to a RESTART has been sent. The raw levels stand (log 8), a chain raw closed begins its re-arm time (log
19), and a frame in flight at a COLD restart stays marked for discard (log 29). Signal records, flash clock, plug times,
lamps and the COLD restart's power-down delay (log 18) are unsaid here. -/
def Obligations.Starts : Prop :=
  ∀ s : State,
    let cold := fun t : State =>
      t.time = 0 ∧ t.timing = ⟨40, .idleOnly, 800, 500, 5, 30⟩ ∧ t.watches = [] ∧ t.notices.overrun = false ∧
      t.link.rx = .hunting ∧ t.link.queue = [] ∧ t.link.reply = none ∧ t.mode = .soloA ∧
      t.group = ⟨[], .notReady, .none⟩ ∧ t.permits = ⟨false, false⟩ ∧ (∀ m, t.member m = ⟨.unknown, .unknown⟩) ∧
      t.order = .idle ∧ t.authority = .linkWithConfirm ∧ t.bypass = none ∧ t.awaitingOff = [] ∧
      (∀ p, t.pair p = ⟨.bothOff, false, false, false, none, none⟩) ∧
      (∀ hb, t.setting.get hb = ⟨none, 0, none⟩) ∧
      t.trip = ⟨.held .start, false, none, s.trip.chainRawClosed, false, if s.trip.chainRawClosed then some 200 else none⟩ ∧
      (∀ hb, (t.attach.get hb).descriptor = none ∧ (t.attach.get hb).profile = none ∧ (t.attach.get hb).census = none ∧
        (t.attach.get hb).plug = false ∧ (t.attach.get hb).plugRaw = (s.attach.get hb).plugRaw ∧
        (∀ n, t.node hb n = none) ∧ (t.bus.get hb).urgent = [] ∧ (t.bus.get hb).transfer = none) ∧
      (∀ i, t.cabIn i = ⟨(s.cabIn i).raw, none, some 30⟩) ∧ t.pending = s.pending
    let bodies := fun t : State => t.notices.queue.map Notice.body
    (∀ tag kind, Free s → tag ≠ 0 → (1 < kind.toNat → refuses (.restart tag kind) s .range) ∧
      (kind.toNat ≤ 1 → answers (.restart tag kind) s .ok [] id)) ∧
    (∃ t, exec .powerOn s = .next t ∧ cold t ∧
      (∀ hb, (t.attach.get hb).state = .empty ∧ (t.bus.get hb).flight = none) ∧
      bodies t = [.started .powerOn 0, .holdState (.held .start) false false none, .attachState .a .empty none none,
        .attachState .b .empty none none, .groupState .soloA ⟨[], .notReady, .none⟩]) ∧
    ∀ r q rest b, s.link.tx = .reply → s.link.reply = some r → r.kind = 0x04 → r.status = .ok →
      s.link.queue = q :: rest → q.body = [b] →
      (b = 0 → ∃ t, exec .replySent s = .next t ∧ cold t ∧
        (∀ hb, (t.attach.get hb).state =
          if (s.attach.get hb).state = .empty then .empty else .releasing .empty) ∧
        (∀ hb, (t.bus.get hb).flight = (s.bus.get hb).flight.map fun f => { f with discard := true }) ∧
        bodies t = [.started .cold 0, .holdState (.held .start) false false none,
          .attachState .a (t.attach.get .a).state none none, .attachState .b (t.attach.get .b).state none none,
          .groupState .soloA ⟨[], .notReady, .none⟩]) ∧
      (b = 1 → ∃ t, exec .replySent s = .next t ∧
        t.time = s.time ∧ t.watches = [] ∧ t.notices.overrun = false ∧ t.link.rx = .hunting ∧ t.link.queue = [] ∧
        t.link.reply = none ∧ t.order = .idle ∧ t.bypass = none ∧ t.trip = { s.trip with hold := none } ∧
        (∀ p, t.pair p = { s.pair p with command := .bothOff, mismatch := false, offMark := false }) ∧
        (∀ hb, t.setting.get hb =
          ⟨if (s.setting.get hb).op = none then (s.setting.get hb).setting else none, 0, none⟩) ∧
        (∀ hb, (t.bus.get hb).transfer = none) ∧ t.group.members = t.composed ∧
        (∃ ends, bodies t = [.started .warm (timeWord s.time),
            .holdState t.trip.state t.trip.pending t.trip.chainClosed none,
            .attachState .a (t.attach.get .a).state none ((t.attach.get .a).descriptor.map Descriptor.serial),
            .attachState .b (t.attach.get .b).state none ((t.attach.get .b).descriptor.map Descriptor.serial)] ++ ends ++
            [.groupState t.mode t.group] ++
            (if t.permits.up then [.permit .up true none] else []) ++
            (if t.permits.down then [.permit .down true none] else []) ∧
          ends = [Headblock.a, .b].flatMap fun hb => match (s.setting.get hb).op with
            | none => []
            | some op => [.setEnd hb .restart op.target op.step.name none]) ∧
        keeps [.watches, .receiver, .queue, .reply, .flash, .order, .bypass, .trip, .pairs, .setting, .memberList,
          .tx, .notices, .signals, .lamps, .traffic, .groupState, .permits] s t)

/-! ## Pins: raw levels, the chain, the plugs -/

/-- R76, R77, R112, R152: a change of a raw level starts a time when it leaves the recognized level and cancels it when
it returns; a raw level that does not change changes nothing (log 2). -/
def Obligations.RawLevels : Prop :=
  ∀ (s : State) (on : Bool),
    (s.trip.chainRawClosed = on → exec (.tripChainRawChange on) s = .next (finish s s)) ∧
    (s.trip.chainRawClosed ≠ on → exec (.tripChainRawChange on) s = .next (finish s
      { s with trip := { s.trip with
        chainRawClosed := on
        chainTimer :=
          if on = s.trip.chainClosed then none else some (s.time + if on then 200 else 5) } })) ∧
    (∀ hb, (s.attach.get hb).plugRaw = on → exec (.plugRawChange hb on) s = .next (finish s s)) ∧
    (∀ hb, (s.attach.get hb).plugRaw ≠ on → exec (.plugRawChange hb on) s = .next (finish s
      (updateAttach hb (fun a =>
        { a with plugRaw := on, plugTimer := if on = a.plug then none else some (s.time + 100) }) s))) ∧
    (∀ input, (s.cabIn input).raw = on → exec (.cabRawChange input on) s = .next (finish s s)) ∧
    ∀ input, (s.cabIn input).raw ≠ on → exec (.cabRawChange input on) s = .next (finish s
      (updateCab input (fun c =>
        { c with raw := on, timer := if c.level = some on then none else some (s.time + s.timing.debounce) }) s))

/-- R79 to R81: a trip edge taken in CLEAR, in one action; the report of R83 is made in it when no pair awaits. R73:
which pairs await confirmation when force-off is claimed. The time is taken to the edge's moment (log 5). -/
def Obligations.TripEdgeInClear : Prop :=
  (∀ (s : State) (due : Nat), s.trip.chainTimer = some due → s.trip.chainRawClosed = false → s.trip.chainClosed = true →
    s.trip.state = .clear →
    ∃ t, exec .tripEdge s = .next (finish t t) ∧
      let hold := match s.order with
        | .active _ head members _ => some (⟨head.kind, head.origin, members.map OrderMember.member, head.turningBegun,
            s.bypass.isSome⟩ : HoldRec)
        | _ => s.trip.hold
      let last : TripState := if t.awaitingOff = [] then .held .trip else .holding .trip
      let ends := [Headblock.a, .b].flatMap fun hb => match (s.setting.get hb).op with
        | none => []
        | some op => [NoticeBody.setEnd hb .trip op.target op.step.name none]
      t.time = max s.time due ∧ t.awaitingOff = { s with time := max s.time due }.awaitingOffOf ∧
      t.trip = ⟨last, false, hold, false, false, none⟩ ∧
      (∀ p, t.pair p = { s.pair p with
        command := .bothOff
        offMark := (s.pair p).offMark && !decide ((∃ om ∈ s.order.activeMembers, om.member.pair = p) ∨
          (8 ≤ p.i.val ∧ (s.setting.get p.hb).op ≠ none)) }) ∧
      (t.order = match s.order with
        | .proposed _ _ => .idle
        | .active _ head _ _ => .suspended head
        | o => o) ∧
      (∀ hb, t.setting.get hb = if (s.setting.get hb).op = none then s.setting.get hb else ⟨none, 0, none⟩) ∧
      t.bypass = none ∧ t.choices = s.choices ∧
      (t.group.members = if ∀ hb ∈ headblocks, (s.setting.get hb).op = none then s.group.members
        else (compose t).group.members) ∧
      t.group = (finish t t).group ∧
      t.notices = (postAll ([.holdState (.holding .trip) false false hold] ++
        (match s.order with
          | .proposed head _ => [.orderStage .idle head, .orderEnd head .ended .trip []]
          | .active _ head _ _ => [.orderStage .suspended head]
          | _ => []) ++ ends ++
        (match s.bypass with
          | some hb => [.bypassState false hb (some .trip)]
          | none => []) ++
        (if t.group = s.group then [] else [.groupState t.mode t.group]) ++
        (if t.awaitingOff = [] then [.holdState (.held .trip) false false hold] else []))
          { s with time := max s.time due }).notices ∧
      keeps [.time, .trip, .pairs, .awaitingOff, .order, .setting, .bypass, .memberList, .groupState, .notices] s t) ∧
  ∀ (s : State) (p : PairId),
    let carried := ∃ f image period, (s.bus.get p.hb).flight = some f ∧ f.node = p.node ∧
      f.kind = .exchange image period ∧ (imageEcho p image).anyOn = true
    p ∈ s.awaitingOffOf ↔
      ((s.pair p).command ≠ .bothOff ∨
        ∃ r echo, s.node p.hb p.node = some r ∧ r.echo = some echo ∧ (imageEcho p echo).anyOn = true) ∧
      (s.attach.get p.hb).state.supplyOn = true ∧
      ∃ r, s.node p.hb p.node = some r ∧
        ¬(r.link = .lost ∧ r.offTime p ≤ s.time ∧ s.stillSending p = false) ∧
        ¬((∃ image, r.reference = some image ∧ imageEcho p image = .bothOff) ∧
          (∃ echo, r.echo = some echo ∧ imageEcho p echo = .bothOff) ∧ ¬carried)

/-- R76, R77, R84: a trip edge taken in HOLDING or HELD sets the pending flag once; the re-arm time recognizes the chain
CLOSED and changes nothing else. Each takes the time to its moment (log 5); either event without its condition changes
nothing (log 2). -/
def Obligations.PendingTripAndRearm : Prop :=
  ∀ s : State,
    (∀ due, s.trip.chainTimer = some due → s.trip.chainRawClosed = false → s.trip.chainClosed = true →
      s.trip.state ≠ .clear →
      let open' : State := { s with time := max s.time due
                                    trip := { s.trip with chainClosed := false, chainTimer := none, pending := true } }
      exec .tripEdge s =
        if s.trip.pending then .next (finish open' open')
        else .next (finish (post (.holdState s.trip.state true false s.trip.hold) open')
          (post (.holdState s.trip.state true false s.trip.hold) open'))) ∧
    (∀ due, s.trip.chainTimer = some due → s.trip.chainRawClosed = true → s.trip.chainClosed = false →
      exec .tripChainRearm s = .next (finish s
        { s with time := max s.time due, trip := { s.trip with chainClosed := true, chainTimer := none } })) ∧
    (s.trip.chainTimer = none ∨ s.trip.chainRawClosed = true ∨ s.trip.chainClosed = false →
      exec .tripEdge s = .next (finish s s)) ∧
    (s.trip.chainTimer = none ∨ s.trip.chainRawClosed = false ∨ s.trip.chainClosed = true →
      exec .tripChainRearm s = .next (finish s s))

/-- R112, R114, R118, R119: a plug insertion and a plug removal recognized, and the ends of the two delays; what a
change of attachment state reaches is `AttachmentChange`'s. Each takes the time to its moment, from which a new delay is
measured (log 5). -/
def Obligations.PlugsAndDelays : Prop :=
  ∀ (s : State) (hb : Headblock) (due : Nat),
    let a := s.attach.get hb
    let at0 : State := { s with time := max s.time due }
    let plugged := fun present => updateAttach hb (fun a => { a with plug := present, plugTimer := none }) at0
    let power := changeAttach hb (fun a =>
      { a with state := .powering, delayEnd := some (max s.time due + s.timing.powerUp) }) []
    (a.plugTimer = some due → a.plugRaw = true → a.plug = false →
      exec (.plugInsertion hb) s =
        .next (finish s (if a.state = .empty then power (plugged true) else plugged true))) ∧
    (a.plugTimer = some due → a.plugRaw = false → a.plug = true →
      exec (.plugRemoval hb) s = .next (finish s (match a.state with
        | .empty | .releasing .empty => plugged false
        | .releasing _ => changeAttach hb (fun a => { a with state := .releasing .empty }) [] (plugged false)
        | _ => changeAttach hb (fun a =>
            { a with state := .releasing .empty, descriptor := none, profile := none, census := none
                     delayEnd := some (max s.time due + s.timing.powerDown) }) [] (plugged false)))) ∧
    (a.state = .powering → a.delayEnd = some due →
      exec (.powerUpDelayEnd hb) s = .next (finish s (changeAttach hb (fun a =>
        { a with state := .census, census := some ⟨Vector.ofFn fun _ => none, 0, 1⟩, delayEnd := none }) [] at0))) ∧
    (∀ next, a.state = .releasing next → a.delayEnd = some due →
      let empty := changeAttach hb (fun a => { a with state := .empty, delayEnd := none }) [] at0
      exec (.powerDownDelayEnd hb) s = .next (finish s (match next with
        | .off => changeAttach hb (fun a => { a with state := .off, delayEnd := none }) [] at0
        | .powering => power at0
        | .empty => if a.plug then power empty else empty)))

/-! ## The spreader buses -/

/-- R72, R132, R135: the end of a master frame opens the reply window and notes the frame times of R72 (log 22); a
hold-off marker extends the window once, and a second one is noted (log 17). Without a frame in that phase nothing
changes (log 2). -/
def Obligations.FrameTimes : Prop :=
  ∀ (s : State) (hb : Headblock) (overlap : Bool),
    ((s.bus.get hb).flight = none →
      exec (.masterFrameEnd hb) s = .next (finish s s) ∧ exec (.holdOff hb overlap) s = .next (finish s s)) ∧
    ∀ f, (s.bus.get hb).flight = some f →
      let opened := updateBus hb (fun b => { b with flight := some { f with phase := .window, endTime := s.time } }) s
      (f.phase = .sending → exec (.holdOff hb overlap) s = .next (finish s s)) ∧
      (f.phase ≠ .sending → exec (.masterFrameEnd hb) s = .next (finish s s)) ∧
      (f.phase = .sending → (∀ image period, f.kind ≠ .exchange image period) →
        exec (.masterFrameEnd hb) s = .next (finish s opened)) ∧
      (∀ image period, f.phase = .sending → f.kind = .exchange image period →
        let ms := period.toNat * 5
        let stretch := fun o : Option OnFrame => o.map fun g => (⟨g.endTime, max g.longest ms⟩ : OnFrame)
        let on := fun (c d : Nat) (o : Option OnFrame) =>
          if image.getLsbD c ∨ image.getLsbD d then some (⟨s.time, ms⟩ : OnFrame) else stretch o
        exec (.masterFrameEnd hb) s = .next (finish s (updateBus hb (fun b =>
          { b with nodes := Vector.ofFn fun n => if n = f.node then (b.node n).map fun r =>
              { r with goodFrame := stretch r.goodFrame, onFrameLow := on 0 1 r.onFrameLow
                       onFrameHigh := on 2 3 r.onFrameHigh }
            else b.node n }) opened))) ∧
      (f.phase = .window → exec (.holdOff hb overlap) s = .next (finish s (updateBus hb (fun b =>
        { b with flight := some { f with phase := .extended, overlap := f.overlap || overlap } }) s))) ∧
      (f.phase = .extended → exec (.holdOff hb overlap) s = .next (finish s (updateBus hb (fun b =>
        { b with flight := some { f with secondHoldOff := true, overlap := f.overlap || overlap } }) s)))

/-- R40 to R54, R65, R66, R68 to R70, R133 to R138: an exchange reply that ends GOOD. In this order: the node's
record takes its images and flags, with NODE_STATE (log 15) and the frame time of R72 (log 22); the coils of its pairs
are compared with the image the frame carried, with MEMBER_FAULT (log 41) and the confirming of coils off; the members
of a corner node are derived again; the order is aborted, or its members progress (`MemberProgress`); the Spreader
Setting Unit takes the reply (`MemberProgress`). A reply that is not the whole reply asked for is judged CORRUPT, and
one with overlapping transmitters CLASH, as REPLY_STALL is; with no frame waiting nothing changes (log 2); an outcome to
be discarded frees the bus (log 31). Which of the three reply rows brings the bytes makes no difference: the frame in
flight decides what is asked. -/
def Obligations.GoodExchange : Prop :=
  ∀ (s : State) (hb : Headblock) (bytes : List Byte) (overlap : Bool),
    ((∀ f, (s.bus.get hb).flight = some f → f.phase = .sending) →
      exec (.exchReply hb bytes overlap) s = .next (finish s s)) ∧
    (exec (.idReply hb bytes overlap) s = exec (.exchReply hb bytes overlap) s ∧
      exec (.diagReply hb bytes overlap) s = exec (.exchReply hb bytes overlap) s) ∧
    ∀ f image period, (s.bus.get hb).flight = some f → f.kind = .exchange image period → f.phase ≠ .sending →
      let reply := fun input echo status : Byte => [0x21, byte (f.node.val + 1), input, echo, status]
      let free := updateBus hb (fun b => { b with flight := none }) s
      (f.discard = true ∨ s.node hb f.node = none → exec (.exchReply hb bytes overlap) s = .next (finish s free)) ∧
      ((overlap = true ∨ f.overlap = true ∨ f.secondHoldOff = true ∨
          ∀ input echo status, bytes ≠ reply input echo status ++ [crc8 (reply input echo status)]) →
        exec (.exchReply hb bytes overlap) s = exec (.replyStall hb overlap) s) ∧
      ∀ old input echo status, overlap = false → f.discard = false → f.overlap = false → f.secondHoldOff = false →
        s.node hb f.node = some old → bytes = reply input echo status ++ [crc8 (reply input echo status)] →
        let new := { old with
          link := .online, misses := 0, lastGood := s.time, input := some input, echo := some echo
          reference := some image, restarted := status.getLsbD 0, supplyLow := status.getLsbD 1
          goodFrame := some ⟨f.endTime, period.toNat * 5⟩, signalsKnown := true }
        let shown := fun p => imageEcho p echo
        let disagrees := fun p => shown p = .bothOn ∨ shown p ≠ imageEcho p image
        let served := nodePairs hb f.node
        let latching := served.filter fun p => disagrees p ∧ (s.pair p).mismatch = true
        let held := fun p : PairId =>
          if 8 ≤ p.i.val then (s.setting.get p.hb).op ≠ none else ∃ om ∈ s.order.activeMembers, om.member.pair = p
        let recorded := postAll
          (if old.link = .lost ∨ status.getLsbD 0 = true ∨ status.getLsbD 1 ≠ old.supplyLow then
            [.nodeState hb f.node old.kind .online 0 false (status.getLsbD 0) (status.getLsbD 1)] else [])
          (updateBus hb (fun b =>
            { b with nodes := Vector.ofFn fun n => if n = f.node then some new else b.node n }) free)
        let compared := postAll
          ((latching.filter fun p => (s.pair p).fault = false).map fun p =>
            .memberFault p (imageEcho p image) (shown p) (s.pair p).command)
          (updatePairs (fun p r => if p ∈ served then
            { command := r.command
              mismatch := decide (disagrees p ∧ r.mismatch = false)
              fault := decide (r.fault = true ∨ disagrees p ∧ r.mismatch = true)
              offMark := decide (r.offMark = true ∨ shown p = .bothOff ∧ held p)
              lastOnFirst := if shown p = .on .first ∨ shown p = .bothOn then some (timeWord s.time) else r.lastOnFirst
              lastOnSecond := if shown p = .on .second ∨ shown p = .bothOn then some (timeWord s.time) else r.lastOnSecond }
            else r) recorded)
        let confirmed := confirmedOff (fun p => decide (p ∈ latching ∨
          p ∈ served ∧ shown p = .bothOff ∧ imageEcho p image = .bothOff)) compared
        let u := updateMembers (fun m r => if m ∈ nodeMembers hb f.node then confirmed.derivedMember m else r) confirmed
        let ordered := match s.order with
          | .active _ head members _ =>
            let here := fun om : OrderMember => om.member ∈ nodeMembers hb f.node
            let coil := fun om : OrderMember => here om ∧ om.member.pair ∈ latching
            let conflict := fun om : OrderMember => here om ∧ (u.member om.member).position = .conflict
            let lifted := fun om : OrderMember => here om ∧ s.bypass = none ∧ (s.member om.member).landed = .on ∧
              (u.member om.member).landed = .off
            let failed := members.map fun om =>
              if coil om ∨ conflict om ∨ lifted om then { om with progress := .failed } else om
            if ∃ om ∈ members, coil om then heldOrder head failed .coilFault u
            else if ∃ om ∈ members, conflict om then heldOrder head failed .sensorFault u
            else if ∃ om ∈ members, lifted om then heldOrder head failed .landedLost u
            else setProgress (members.map fun om => if here om then u.memberOnReply head.kind om else om) u
          | _ => u
        exec (.exchReply hb bytes overlap) s = .next (finish s (settingOnReply hb f.node latching input ordered))

/-- R135, R138, R139, R68, Table 8-5: an exchange frame whose reply window ends in silence, or whose reply stalls: the
miss count rises, and at three the node is LOST; the reference image is the image the frame carried. NODE_STATE's
restarted flag is this outcome's, clear (log 15); what a change to LOST hands on whole is in `DiagReply`. While the
count stays below three nothing but the record, the frame in flight and a CLASH notice changes. -/
def Obligations.MissedExchange : Prop :=
  ∀ (s : State) (hb : Headblock) (f : Flight) (old : NodeRec) (image period : Byte) (overlap : Bool),
    (s.bus.get hb).flight = some f → f.kind = .exchange image period → f.phase ≠ .sending → f.discard = false →
    s.node hb f.node = some old →
    ∀ i ∈ [Instr.replyWindowEnd hb overlap, .replyStall hb overlap],
      let clash := overlap || f.overlap
      (old.misses.val < 2 →
        let new := { old with misses := old.misses + 1, reference := some image }
        exec i s = .next (finish s (postAll
          (if clash then [.nodeState hb f.node old.kind old.link new.misses true false old.supplyLow] else [])
          (updateBus hb (fun b =>
            { b with flight := none
                     nodes := Vector.ofFn fun n => if n = f.node then some new else b.node n }) s)))) ∧
      (2 ≤ old.misses.val →
        let new := { old with misses := 3, link := .lost, signalsKnown := false, reference := some image }
        ∃ t, exec i s = .next (finish s t) ∧ t.node hb f.node = some new ∧
          (∀ n, n ≠ f.node → t.node hb n = s.node hb n) ∧ (t.bus.get hb).flight = none ∧
          (∀ m ∈ nodeMembers hb f.node, old.link = .online → t.member m = ⟨.unknown, .unknown⟩) ∧
          ((∀ r n, n ≠ f.node → s.node hb n = some r → r.link = .lost) →
            ∀ prior ∈ [Prior.identified, .armed], s.attachState hb = prior.state → old.link = .online →
              t.attachState hb = .linkDown prior ∧ (t.bus.get hb).transfer = none) ∧
          (∀ stage head members due, s.order = .active stage head members due → old.link = .online →
            (∃ om ∈ members, om.member ∈ nodeMembers hb f.node) →
            t.order = .faultHeld head (members.map fun om =>
              if om.member ∈ nodeMembers hb f.node then { om with progress := .failed } else om) .nodeLost) ∧
          (∃ rest, t.notices = (postAll ((if old.link = .online ∨ clash = true then
            [.nodeState hb f.node old.kind .lost 3 clash false old.supplyLow] else []) ++ rest) s).notices) ∧
          keeps [.nodes, .traffic, .pairs, .awaitingOff, .trip, .members, .order, .setting, .memberList, .notices,
            .attach, .bypass] s t)

/-- R115, R116, R125 to R127, R135, Tables 7-3 and 8-5: the outcomes of a census frame and of the probe. A census reply
that ends GOOD is entered; a third SILENT or CORRUPT outcome leaves the address without an answer; then the census moves
on or is judged, and a CLASH ends it. A refresh with the same serial keeps the status flags (log 39) and the frame times
(log 22); a cleared latch takes its mismatch count with it (log 40). -/
def Obligations.CensusReply : Prop :=
  ∀ (s : State) (hb : Headblock) (f : Flight),
    (s.bus.get hb).flight = some f → f.kind = .identify → f.phase ≠ .sending → f.discard = false →
    let reply := fun (kind : NodeKind) (descriptor : List Byte) =>
      [0x22, byte (f.node.val + 1), match kind with | .corner => 1 | .body => 2 | .aux => 3] ++ descriptor
    let whole := fun (kind : NodeKind) (descriptor : List Byte) =>
      if kind = .body then descriptor.length = 16 else descriptor = []
    let good := fun (kind : NodeKind) (descriptor : List Byte) =>
      Instr.idReply hb (reply kind descriptor ++ [crc8 (reply kind descriptor)]) false
    let free := updateBus hb (fun b => { b with flight := none }) s
    (∀ bytes overlap, (overlap = true ∨ f.overlap = true ∨ f.secondHoldOff = true ∨
        ∀ kind descriptor, whole kind descriptor → bytes ≠ reply kind descriptor ++ [crc8 (reply kind descriptor)]) →
      exec (.idReply hb bytes overlap) s = exec (.replyStall hb overlap) s) ∧
    (∀ prior, (s.attach.get hb).state = .linkDown prior →
      (f.overlap = false → f.secondHoldOff = false → ∀ kind descriptor, whole kind descriptor →
        exec (good kind descriptor) s = .next (finish s (changeAttach hb (fun a =>
          { a with state := .reidentify prior, census := some ⟨Vector.ofFn fun _ => none, 0, 1⟩ }) [] free))) ∧
      ∀ overlap, ∀ i ∈ [Instr.replyWindowEnd hb overlap, .replyStall hb overlap], exec i s = .next (finish s free)) ∧
    ∀ c, (s.attach.get hb).census = some c → f.node = c.node →
      ((s.attach.get hb).state = .census ∨
        ∃ prior old, (s.attach.get hb).state = .reidentify prior ∧ (s.attach.get hb).descriptor = some old) →
      let fault := fun (i : Instr) (cause : AttachCause) => exec i s = .next (finish s (changeAttach hb (fun a =>
        { a with state := .attachFault cause, descriptor := none, profile := none, census := none }) [] free))
      let keeps' := fun (i : Instr) (c : Census) =>
        exec i s = .next (finish s (updateAttach hb (fun a => { a with census := some c }) free))
      let moves := fun (i : Instr) (answers : Vector (Option Answer) 7) =>
        let answered := fun (n : NodeIx) (k : NodeKind) => ∃ a, answers.get n = some a ∧ a.kind = k
        let listed := fun (d : Descriptor) =>
          ∀ n k, (∃ a, answers.get n = some a ∧ a.kind = k) ↔ d.kindAt n = some k
        (∀ h : c.node.val + 1 < 7, keeps' i ⟨answers, ⟨c.node.val + 1, h⟩, 1⟩) ∧
        (c.node.val = 6 →
          (¬answered 4 .body → fault i .noBody) ∧
          (answered 4 .body → ¬(∀ n : NodeIx, n.val < 4 → answered n .corner) → fault i .cornerMissing) ∧
          (∀ b, answers.get 4 = some b → b.kind = .body → (∀ n : NodeIx, n.val < 4 → answered n .corner) →
            ((∀ d, descriptorOf? b.descriptor = some d → ¬listed d) → fault i .censusMismatch) ∧
            ∀ d, descriptorOf? b.descriptor = some d → listed d →
              let filled := clearMismatches (fun p => p.hb = hb && (d.kindAt p.node).isSome) (updateBus hb (fun b =>
                { b with
                  urgent := []
                  nodes := Vector.ofFn fun n => (d.kindAt n).map fun k =>
                    freshNode k (((answers.get n).map Answer.time).getD 0) }) free)
              ((s.attach.get hb).state = .census → exec i s = .next (finish s (changeAttach hb (fun a =>
                { a with state := .identified, descriptor := some d, census := none }) [] filled))) ∧
              ∀ prior old, (s.attach.get hb).state = .reidentify prior → (s.attach.get hb).descriptor = some old →
                (old.serial ≠ d.serial → exec i s = .next (finish s (changeAttach hb (fun a =>
                  { a with state := .identified, descriptor := some d, profile := none, census := none })
                  [.spreaderChanged hb old.serial old.model d.serial d.model]
                  (clearLatches (fun p => p.hb = hb) filled)))) ∧
                (old.serial = d.serial → exec i s = .next (finish s (changeAttach hb (fun a =>
                  { a with state := prior.state, descriptor := some d, census := none }) []
                  (clearMismatches (fun p => p.hb = hb && (d.kindAt p.node).isSome) (updateBus hb (fun b =>
                    { b with nodes := Vector.ofFn fun n => (d.kindAt n).map fun k =>
                        let at0 := ((answers.get n).map Answer.time).getD 0
                        match b.node n with
                        | none => freshNode k at0
                        | some r =>
                          { r with kind := k, link := .online, misses := 0, lastGood := at0, lastBegun := none
                                   echo := none, reference := none, signalsKnown := r.input.isSome } }) free)))))))
      (f.overlap = false → f.secondHoldOff = false → ∀ kind descriptor, whole kind descriptor →
        moves (good kind descriptor)
          (Vector.ofFn fun n => if n = c.node then some ⟨kind, s.time, descriptor⟩ else c.answers.get n)) ∧
      ∀ overlap, ∀ i ∈ [Instr.replyWindowEnd hb overlap, .replyStall hb overlap],
        (overlap = true ∨ f.overlap = true → fault i .clash) ∧
        (overlap = false → f.overlap = false → c.attempt < 3 → keeps' i { c with attempt := c.attempt + 1 }) ∧
        (overlap = false → f.overlap = false → 3 ≤ c.attempt → moves i c.answers)

/-- R135, R138, R139, R147, R148, Table 8-5: the outcomes of a diagnostic frame. A reply that ends GOOD counts as
answered, and its data join the transfer, which goes on, ends COMPLETE or ends SHORT; another outcome is a miss, and the
same block is asked again or the transfer ends FAILED; a node that it makes LOST ends the transfer, ABORTED where it had
attempts left, before NODE_STATE (log 33). R138: what a change of a node to LOST hands on, whatever the frame. -/
def Obligations.DiagReply : Prop :=
  (∀ (s : State) (hb : Headblock) (f : Flight) (old : NodeRec) (d : Transfer) (block : Byte),
    (s.bus.get hb).flight = some f → f.kind = .diagRead block → f.phase ≠ .sending → f.discard = false →
    f.orphan = false → s.node hb f.node = some old → old.link = .online → (s.bus.get hb).transfer = some d →
    d.node = f.node →
    let reply := fun data : List Byte => [0x23, byte (f.node.val + 1), block, byte data.length] ++ data
    let after := fun (new : NodeRec) (transfer : Option Transfer) => updateBus hb (fun b =>
      { b with
        flight := none
        transfer := transfer
        nodes := Vector.ofFn fun n => if n = f.node then some new else b.node n }) s
    (∀ data : List Byte, f.overlap = false → f.secondHoldOff = false → data.length ≤ 24 →
      let answered := after { old with misses := 0, lastGood := s.time }
      let received := { d with data := d.data ++ data, received := d.received + 1, attempt := 1 }
      let command := Instr.diagReply hb (reply data ++ [crc8 (reply data)]) false
      (data.length < 24 →
        exec command s = .next (finish s (post (.diagResult hb received .short) (answered none)))) ∧
      (data.length = 24 → d.received + 1 = d.count →
        exec command s = .next (finish s (post (.diagResult hb received .complete) (answered none)))) ∧
      (data.length = 24 → d.received + 1 ≠ d.count →
        exec command s = .next (finish s (answered (some { received with next := d.next + 1 }))))) ∧
    (∀ bytes overlap, (overlap = true ∨ f.overlap = true ∨ f.secondHoldOff = true ∨
        ∀ data : List Byte, data.length ≤ 24 → bytes ≠ reply data ++ [crc8 (reply data)]) →
      exec (.diagReply hb bytes overlap) s = exec (.replyStall hb overlap) s) ∧
    ∀ overlap, ∀ i ∈ [Instr.replyWindowEnd hb overlap, .replyStall hb overlap],
      let clash := overlap || f.overlap
      let again := { d with attempt := d.attempt + 1 }
      (old.misses.val < 2 →
        exec i s = .next (finish s (postAll
          ((if d.attempt < 3 then [] else [.diagResult hb d .failed]) ++
            (if clash then [.nodeState hb f.node old.kind .online (old.misses + 1) true false old.supplyLow] else []))
          (after { old with misses := old.misses + 1 } (if d.attempt < 3 then some again else none))))) ∧
      (2 ≤ old.misses.val →
        exec i s = .next (finish s (nodeLost hb f.node (postAll
          [if d.attempt < 3 then .diagResult hb again .aborted else .diagResult hb d .failed,
            .nodeState hb f.node old.kind .lost 3 clash false old.supplyLow]
          (after { old with misses := 3, link := .lost, signalsKnown := false } none)))))) ∧
  ∀ (s : State) (hb : Headblock) (n : NodeIx) (r : NodeRec), s.node hb n = some r → r.link = .lost →
    (s.bus.get hb).flight = none →
    let confirmed := confirmedOff (fun p => decide (p.hb = hb ∧ p.node = n ∧ r.offTime p ≤ s.time)) s
    let unknown := updateMembers (fun m r => if m ∈ nodeMembers hb n then ⟨.unknown, .unknown⟩ else r) confirmed
    let ordered := match s.order with
      | .active _ head members _ =>
        if ∃ om ∈ members, om.member ∈ nodeMembers hb n then
          heldOrder head (members.map fun om =>
            if om.member ∈ nodeMembers hb n then { om with progress := .failed } else om) .nodeLost unknown
        else unknown
      | _ => unknown
    let set := settingNodeLost hb n ordered
    let read := match (s.bus.get hb).transfer with
      | some d =>
        if d.node = n then post (.diagResult hb d .aborted) (updateBus hb (fun b => { b with transfer := none }) set)
        else set
      | none => set
    let down := fun prior => changeAttach hb (fun a => { a with state := .linkDown prior }) []
      (updateBus hb (fun b => { b with lastProbe := none }) read)
    nodeLost hb n s =
      if ∀ m : NodeIx, ∀ r ∈ s.node hb m, r.link = .lost then
        match (s.attach.get hb).state with
        | .identified => down .identified
        | .armed => down .armed
        | _ => read
      else read

/-! ## Times -/

/-- R66, R72, R140, R142: the moments at which a node or the probe becomes due, a last-on time turns to never, and a
LOST node's pairs are confirmed off. Each takes the time to its moment (log 5), and changes nothing where its condition
does not stand (log 2). LOST_NODE_OFF_TIME takes the earliest time that the node's awaited pairs wait for (log 23).
R72's time is four periods after the later of two frames, the period the longest carried from the earlier onwards (log
22); the time of a pair whose frame is still being sent is not there yet. -/
def Obligations.BusTimes : Prop :=
  (∀ (r : NodeRec) (p : PairId),
    let on := if p.i.val < 4 ∨ p.i.val = 8 then r.onFrameLow else r.onFrameHigh
    r.offTime p = match r.goodFrame, on with
      | none, none => 0
      | some f, none | none, some f => f.endTime + 4 * f.longest
      | some f, some g => max f.endTime g.endTime + 4 * max f.longest g.longest) ∧
  (∀ (s : State) (p : PairId), s.stillSending p = true ↔ ∃ f image period, (s.bus.get p.hb).flight = some f ∧
    f.node = p.node ∧ f.kind = .exchange image period ∧ f.phase = .sending ∧ (imageEcho p image).anyOn = true) ∧
  ∀ s : State,
    (∀ hb n,
      (∀ r begun, s.node hb n = some r → r.lastBegun = some begun →
        exec (.nodeDue hb n) s = .next (finish s { s with time := max s.time (begun + s.timing.period) })) ∧
      ((∀ r, s.node hb n = some r → r.lastBegun = none) → exec (.nodeDue hb n) s = .next (finish s s))) ∧
    (∀ hb,
      (∀ prior begun, (s.attach.get hb).state = .linkDown prior → (s.bus.get hb).lastProbe = some begun →
        exec (.probeDue hb) s = .next (finish s { s with time := max s.time (begun + s.timing.period) })) ∧
      ((∀ prior, (s.attach.get hb).state ≠ .linkDown prior) ∨ (s.bus.get hb).lastProbe = none →
        exec (.probeDue hb) s = .next (finish s s))) ∧
    (∀ p coil,
      (∀ at0, (s.pair p).lastOn coil = some at0 →
        exec (.lastOnExpiry p coil) s = .next (finish s (updatePairs
          (fun q r => if q = p then (match coil with
            | .first => { r with lastOnFirst := none }
            | .second => { r with lastOnSecond := none }) else r)
          { s with time := s.time + (500 - (timeWord s.time - at0).toNat) }))) ∧
      ((s.pair p).lastOn coil = none → exec (.lastOnExpiry p coil) s = .next (finish s s))) ∧
    ∀ hb n,
      ((∀ r, s.node hb n = some r → r.link = .online) → exec (.lostNodeOffTime hb n) s = .next (finish s s)) ∧
      ∀ r, s.node hb n = some r → r.link = .lost →
        let waits := fun p => p ∈ s.awaitingOff ∧ p ∈ nodePairs hb n ∧ s.stillSending p = false
        ((∀ p, ¬waits p) → exec (.lostNodeOffTime hb n) s = .next (finish s s)) ∧
        ∀ p, waits p → (∀ q, waits q → r.offTime p ≤ r.offTime q) →
          let now := max s.time (r.offTime p)
          exec (.lostNodeOffTime hb n) s = .next (finish s
            (confirmedOff (fun q => decide (waits q ∧ r.offTime q ≤ now)) { s with time := now }))

/-- R34, R41, R48, R98, R101: the confirm and turn deadlines, the ends of the dead times, the deadline of a set
operation. Each takes the time to its moment (log 5). -/
def Obligations.Deadlines : Prop :=
  ∀ s : State,
    (∀ head due, s.order = .proposed head due →
      exec .confirmDeadline s = .next (finish s
        (postAll [.orderStage .idle head, .orderEnd head .ended .confirmLate []]
          { s with time := max s.time due, order := .idle }))) ∧
    (∀ stage head members due, s.order = .active stage head members due →
      let failed := members.map fun om => if om.progress = .settled then om else { om with progress := .failed }
      exec .turnDeadline s = .next (finish s
        (postAll [.orderStage .faultHeld head,
            .orderEnd head .held .turnTimeout (failed.map fun om => (om.member, om.progress))]
          (updatePairs (fun p r =>
              if ∃ om ∈ members, om.member.pair = p then { r with command := .bothOff, offMark := false } else r)
            { s with time := max s.time due, order := .faultHeld head failed .turnTimeout })))) ∧
    (∀ stage head members due m, s.order = .active stage head members due →
      (∃ om ∈ members, om.member = m ∧ om.progress = .deadWait) →
      exec (.memberDeadTimeEnd m) s = .next (finish s
        (setProgress (members.map fun om => if om.member = m then { om with progress := .driving } else om)
          { s with time := s.time + s.deadTimeLeft m.pair head.kind.coil }))) ∧
    (∀ hb op, (s.setting.get hb).op = some op → op.phase = .deadWait →
      exec (.stepDeadTimeEnd hb) s = .next (finish s (claimOn (fun p => p = op.step.pair hb) op.step.coil
        (updateSetting hb (fun u => { u with op := some { op with phase := .driving } })
          { s with time := s.time + s.deadTimeLeft (op.step.pair hb) op.step.coil })))) ∧
    ∀ hb op, (s.setting.get hb).op = some op →
      exec (.setDeadline hb) s = .next (finish s (compose (post (.setEnd hb .timeout op.target op.step.name none)
        (updateSetting hb (fun _ => ⟨none, 0, none⟩)
          (updatePairs (fun p r => if p.hb = hb ∧ 8 ≤ p.i.val then { r with command := .bothOff, offMark := false } else r)
            { s with time := max s.time op.deadline })))))

/-- R151 to R156, R31 to R34, R159, Tables 2-6 and 9-2: the end of a debounce interval and what its change is handed to;
the flash clock. R155: a press together with the CONFIRM of its kind, in the same millisecond, is WRONG_BUTTON in either
order (log 43). Each takes the time to its moment (log 5). -/
def Obligations.CabInputs : Prop :=
  ∀ s : State,
    (exec .flashClock s = .next (finish s
      { s with time := max s.time s.flash.halfEnd, flash := ⟨!s.flash.lit, s.flash.halfEnd + 500⟩ })) ∧
    ∀ input due, (s.cabIn input).timer = some due →
      let raw := (s.cabIn input).raw
      let t := updateCab input (fun c => { c with level := some raw, timer := none })
        { s with time := max s.time due }
      let refused := fun button reason => post (.cabRefused button reason s.order.stage) t
      let press := fun (kind : OrderKind) (button : Button) =>
        match s.order with
        | .proposed head _ =>
          if head.kind = kind then refused button .wrongButton
          else postAll [.orderStage .idle head, .orderEnd head .ended .cabCancel []] { t with order := .idle }
        | _ =>
          match firstFailing [(decide (s.authority = .cabOnly),
                if s.confirmed = some (kind, t.time) then CabReason.wrongButton else .authority),
              (decide (s.trip.state = .clear), .hold), (decide (s.order.stage ≠ .faultHeld), .held),
              (decide (s.order = .idle), .busy), (decide (s.group.state ≠ .notReady), .notReady)] with
          | some reason => refused button reason
          | none => checkOrder ⟨kind, .cab, false⟩ none t
      let confirm := match s.order with
        | .proposed head _ => checkOrder head none { t with confirmed := some (head.kind, t.time) }
        | _ => refused .confirm .noOrder
      let changed := (s.cabIn input).level = some (!raw)
      exec (.cabDebounceEnd input) s = .next (finish s (
        if ¬changed then t
        else match input, raw with
          | .lockPb, true => press .lock .lock
          | .unlockPb, true => press .unlock .unlock
          | .confirmPb, true => confirm
          | .bypassKey, false => leaveBypass .key t
          | _, _ => t))
end

