-- ==== Sys2Proof/Laws/State.lean ====
section
/-! SUPPORT. One lemma per field per update of the state, true by definition: a proof about an update rewrites with
these and never unfolds the record. -/

namespace Sys2Proof.Machine

/-! ## Tables -/

@[simp] theorem get_ofFn {α : Type} {n : Nat} (f : Fin n → α) (i : Fin n) : (Vector.ofFn f).get i = f i := by
  simp [Vector.get]
  rfl

theorem ext_get {α : Type} {n : Nat} {v w : Vector α n} (h : ∀ i, v.get i = w.get i) : v = w := by
  refine Vector.ext fun i hi => ?_
  simpa [Vector.get] using h ⟨i, hi⟩

/-! ## One value for each headblock -/

@[simp] theorem PerHead.get_ofFn {α : Type} (f : Headblock → α) (hb : Headblock) : (PerHead.ofFn f).get hb = f hb := by
  cases hb <;> rfl

@[simp] theorem PerHead.get_set {α : Type} (p : PerHead α) (hb h : Headblock) (v : α) :
    (p.set hb v).get h = if h = hb then v else p.get h := by
  simp [PerHead.set]

theorem PerHead.ext_get {α : Type} {p q : PerHead α} (h : ∀ hb, p.get hb = q.get hb) : p = q := by
  cases p; cases q
  have ha := h .a
  have hb := h .b
  simp only [PerHead.get] at ha hb
  simp [ha, hb]

/-! ## What an update reads back -/

@[simp] theorem member_updateMembers (f : Member → MemberRec → MemberRec) (s : State) (m : Member) :
    (updateMembers f s).member m = f m (s.member m) := by
  simp [updateMembers, State.member]

@[simp] theorem pair_updatePairs (f : PairId → Pair → Pair) (s : State) (p : PairId) :
    (updatePairs f s).pair p = f p (s.pair p) := by
  simp [updatePairs, State.pair]

@[simp] theorem bus_updateBus (hb h : Headblock) (f : Bus → Bus) (s : State) :
    (updateBus hb f s).bus.get h = if h = hb then f (s.bus.get hb) else s.bus.get h := by
  simp [updateBus]

@[simp] theorem attach_updateAttach (hb h : Headblock) (f : Attach → Attach) (s : State) :
    (updateAttach hb f s).attach.get h = if h = hb then f (s.attach.get hb) else s.attach.get h := by
  simp [updateAttach]

@[simp] theorem setting_updateSetting (hb h : Headblock) (f : SettingUnit → SettingUnit) (s : State) :
    (updateSetting hb f s).setting.get h = if h = hb then f (s.setting.get hb) else s.setting.get h := by
  simp [updateSetting]

@[simp] theorem node_updateNodes (f : NodeIx → Option NodeRec → Option NodeRec) (b : Bus) (n : NodeIx) :
    (b.updateNodes f).node n = f n (b.node n) := by
  simp [Bus.updateNodes, Bus.node]

theorem CabInput.ix_injective {i j : CabInput} (h : i.ix = j.ix) : i = j := by
  cases i <;> cases j <;> first | rfl | cases h

@[simp] theorem cabIn_updateCab (i j : CabInput) (f : CabIn → CabIn) (s : State) :
    (updateCab i f s).cabIn j = if j = i then f (s.cabIn i) else s.cabIn j := by
  have hij : j.ix = i.ix ↔ j = i := ⟨CabInput.ix_injective, fun h => h ▸ rfl⟩
  by_cases h : j = i
  · subst h; simp [updateCab, State.cabIn]
  · simp [updateCab, State.cabIn, hij, h]

/-! ## What an update leaves as it was -/

section
variable (d : Nat) (s : State)
@[simp] theorem advanceTo_pending : (advanceTo d s).pending = s.pending := rfl
@[simp] theorem advanceTo_timing : (advanceTo d s).timing = s.timing := rfl
@[simp] theorem advanceTo_link : (advanceTo d s).link = s.link := rfl
@[simp] theorem advanceTo_notices : (advanceTo d s).notices = s.notices := rfl
@[simp] theorem advanceTo_watches : (advanceTo d s).watches = s.watches := rfl
@[simp] theorem advanceTo_signals : (advanceTo d s).signals = s.signals := rfl
@[simp] theorem advanceTo_cab : (advanceTo d s).cab = s.cab := rfl
@[simp] theorem advanceTo_lamps : (advanceTo d s).lamps = s.lamps := rfl
@[simp] theorem advanceTo_flash : (advanceTo d s).flash = s.flash := rfl
@[simp] theorem advanceTo_bus : (advanceTo d s).bus = s.bus := rfl
@[simp] theorem advanceTo_attach : (advanceTo d s).attach = s.attach := rfl
@[simp] theorem advanceTo_members : (advanceTo d s).members = s.members := rfl
@[simp] theorem advanceTo_mode : (advanceTo d s).mode = s.mode := rfl
@[simp] theorem advanceTo_group : (advanceTo d s).group = s.group := rfl
@[simp] theorem advanceTo_permits : (advanceTo d s).permits = s.permits := rfl
@[simp] theorem advanceTo_order : (advanceTo d s).order = s.order := rfl
@[simp] theorem advanceTo_confirmed : (advanceTo d s).confirmed = s.confirmed := rfl
@[simp] theorem advanceTo_authority : (advanceTo d s).authority = s.authority := rfl
@[simp] theorem advanceTo_pairs : (advanceTo d s).pairs = s.pairs := rfl
@[simp] theorem advanceTo_awaitingOff : (advanceTo d s).awaitingOff = s.awaitingOff := rfl
@[simp] theorem advanceTo_setting : (advanceTo d s).setting = s.setting := rfl
@[simp] theorem advanceTo_trip : (advanceTo d s).trip = s.trip := rfl
@[simp] theorem advanceTo_bypass : (advanceTo d s).bypass = s.bypass := rfl
@[simp] theorem advanceTo_choices : (advanceTo d s).choices = s.choices := rfl
end

section
variable (bs : List NoticeBody) (s : State)
@[simp] theorem postAll_pending : (postAll bs s).pending = s.pending := rfl
@[simp] theorem postAll_time : (postAll bs s).time = s.time := rfl
@[simp] theorem postAll_timing : (postAll bs s).timing = s.timing := rfl
@[simp] theorem postAll_link : (postAll bs s).link = s.link := rfl
@[simp] theorem postAll_watches : (postAll bs s).watches = s.watches := rfl
@[simp] theorem postAll_signals : (postAll bs s).signals = s.signals := rfl
@[simp] theorem postAll_cab : (postAll bs s).cab = s.cab := rfl
@[simp] theorem postAll_lamps : (postAll bs s).lamps = s.lamps := rfl
@[simp] theorem postAll_flash : (postAll bs s).flash = s.flash := rfl
@[simp] theorem postAll_bus : (postAll bs s).bus = s.bus := rfl
@[simp] theorem postAll_attach : (postAll bs s).attach = s.attach := rfl
@[simp] theorem postAll_members : (postAll bs s).members = s.members := rfl
@[simp] theorem postAll_mode : (postAll bs s).mode = s.mode := rfl
@[simp] theorem postAll_group : (postAll bs s).group = s.group := rfl
@[simp] theorem postAll_permits : (postAll bs s).permits = s.permits := rfl
@[simp] theorem postAll_order : (postAll bs s).order = s.order := rfl
@[simp] theorem postAll_confirmed : (postAll bs s).confirmed = s.confirmed := rfl
@[simp] theorem postAll_authority : (postAll bs s).authority = s.authority := rfl
@[simp] theorem postAll_pairs : (postAll bs s).pairs = s.pairs := rfl
@[simp] theorem postAll_awaitingOff : (postAll bs s).awaitingOff = s.awaitingOff := rfl
@[simp] theorem postAll_setting : (postAll bs s).setting = s.setting := rfl
@[simp] theorem postAll_trip : (postAll bs s).trip = s.trip := rfl
@[simp] theorem postAll_bypass : (postAll bs s).bypass = s.bypass := rfl
@[simp] theorem postAll_choices : (postAll bs s).choices = s.choices := rfl
end

section
variable (b : NoticeBody) (s : State)
@[simp] theorem post_pending : (post b s).pending = s.pending := rfl
@[simp] theorem post_time : (post b s).time = s.time := rfl
@[simp] theorem post_timing : (post b s).timing = s.timing := rfl
@[simp] theorem post_link : (post b s).link = s.link := rfl
@[simp] theorem post_watches : (post b s).watches = s.watches := rfl
@[simp] theorem post_signals : (post b s).signals = s.signals := rfl
@[simp] theorem post_cab : (post b s).cab = s.cab := rfl
@[simp] theorem post_lamps : (post b s).lamps = s.lamps := rfl
@[simp] theorem post_flash : (post b s).flash = s.flash := rfl
@[simp] theorem post_bus : (post b s).bus = s.bus := rfl
@[simp] theorem post_attach : (post b s).attach = s.attach := rfl
@[simp] theorem post_members : (post b s).members = s.members := rfl
@[simp] theorem post_mode : (post b s).mode = s.mode := rfl
@[simp] theorem post_group : (post b s).group = s.group := rfl
@[simp] theorem post_permits : (post b s).permits = s.permits := rfl
@[simp] theorem post_order : (post b s).order = s.order := rfl
@[simp] theorem post_confirmed : (post b s).confirmed = s.confirmed := rfl
@[simp] theorem post_authority : (post b s).authority = s.authority := rfl
@[simp] theorem post_pairs : (post b s).pairs = s.pairs := rfl
@[simp] theorem post_awaitingOff : (post b s).awaitingOff = s.awaitingOff := rfl
@[simp] theorem post_setting : (post b s).setting = s.setting := rfl
@[simp] theorem post_trip : (post b s).trip = s.trip := rfl
@[simp] theorem post_bypass : (post b s).bypass = s.bypass := rfl
@[simp] theorem post_choices : (post b s).choices = s.choices := rfl
end

section
variable (f : Member → MemberRec → MemberRec) (s : State)
@[simp] theorem updateMembers_pending : (updateMembers f s).pending = s.pending := rfl
@[simp] theorem updateMembers_time : (updateMembers f s).time = s.time := rfl
@[simp] theorem updateMembers_timing : (updateMembers f s).timing = s.timing := rfl
@[simp] theorem updateMembers_link : (updateMembers f s).link = s.link := rfl
@[simp] theorem updateMembers_notices : (updateMembers f s).notices = s.notices := rfl
@[simp] theorem updateMembers_watches : (updateMembers f s).watches = s.watches := rfl
@[simp] theorem updateMembers_signals : (updateMembers f s).signals = s.signals := rfl
@[simp] theorem updateMembers_cab : (updateMembers f s).cab = s.cab := rfl
@[simp] theorem updateMembers_lamps : (updateMembers f s).lamps = s.lamps := rfl
@[simp] theorem updateMembers_flash : (updateMembers f s).flash = s.flash := rfl
@[simp] theorem updateMembers_bus : (updateMembers f s).bus = s.bus := rfl
@[simp] theorem updateMembers_attach : (updateMembers f s).attach = s.attach := rfl
@[simp] theorem updateMembers_mode : (updateMembers f s).mode = s.mode := rfl
@[simp] theorem updateMembers_group : (updateMembers f s).group = s.group := rfl
@[simp] theorem updateMembers_permits : (updateMembers f s).permits = s.permits := rfl
@[simp] theorem updateMembers_order : (updateMembers f s).order = s.order := rfl
@[simp] theorem updateMembers_confirmed : (updateMembers f s).confirmed = s.confirmed := rfl
@[simp] theorem updateMembers_authority : (updateMembers f s).authority = s.authority := rfl
@[simp] theorem updateMembers_pairs : (updateMembers f s).pairs = s.pairs := rfl
@[simp] theorem updateMembers_awaitingOff : (updateMembers f s).awaitingOff = s.awaitingOff := rfl
@[simp] theorem updateMembers_setting : (updateMembers f s).setting = s.setting := rfl
@[simp] theorem updateMembers_trip : (updateMembers f s).trip = s.trip := rfl
@[simp] theorem updateMembers_bypass : (updateMembers f s).bypass = s.bypass := rfl
@[simp] theorem updateMembers_choices : (updateMembers f s).choices = s.choices := rfl
end

section
variable (f : PairId → Pair → Pair) (s : State)
@[simp] theorem updatePairs_pending : (updatePairs f s).pending = s.pending := rfl
@[simp] theorem updatePairs_time : (updatePairs f s).time = s.time := rfl
@[simp] theorem updatePairs_timing : (updatePairs f s).timing = s.timing := rfl
@[simp] theorem updatePairs_link : (updatePairs f s).link = s.link := rfl
@[simp] theorem updatePairs_notices : (updatePairs f s).notices = s.notices := rfl
@[simp] theorem updatePairs_watches : (updatePairs f s).watches = s.watches := rfl
@[simp] theorem updatePairs_signals : (updatePairs f s).signals = s.signals := rfl
@[simp] theorem updatePairs_cab : (updatePairs f s).cab = s.cab := rfl
@[simp] theorem updatePairs_lamps : (updatePairs f s).lamps = s.lamps := rfl
@[simp] theorem updatePairs_flash : (updatePairs f s).flash = s.flash := rfl
@[simp] theorem updatePairs_bus : (updatePairs f s).bus = s.bus := rfl
@[simp] theorem updatePairs_attach : (updatePairs f s).attach = s.attach := rfl
@[simp] theorem updatePairs_members : (updatePairs f s).members = s.members := rfl
@[simp] theorem updatePairs_mode : (updatePairs f s).mode = s.mode := rfl
@[simp] theorem updatePairs_group : (updatePairs f s).group = s.group := rfl
@[simp] theorem updatePairs_permits : (updatePairs f s).permits = s.permits := rfl
@[simp] theorem updatePairs_order : (updatePairs f s).order = s.order := rfl
@[simp] theorem updatePairs_confirmed : (updatePairs f s).confirmed = s.confirmed := rfl
@[simp] theorem updatePairs_authority : (updatePairs f s).authority = s.authority := rfl
@[simp] theorem updatePairs_awaitingOff : (updatePairs f s).awaitingOff = s.awaitingOff := rfl
@[simp] theorem updatePairs_setting : (updatePairs f s).setting = s.setting := rfl
@[simp] theorem updatePairs_trip : (updatePairs f s).trip = s.trip := rfl
@[simp] theorem updatePairs_bypass : (updatePairs f s).bypass = s.bypass := rfl
@[simp] theorem updatePairs_choices : (updatePairs f s).choices = s.choices := rfl
end

section
variable (f : PairId → Bool) (s : State)
@[simp] theorem claimOff_pending : (claimOff f s).pending = s.pending := rfl
@[simp] theorem claimOff_time : (claimOff f s).time = s.time := rfl
@[simp] theorem claimOff_timing : (claimOff f s).timing = s.timing := rfl
@[simp] theorem claimOff_link : (claimOff f s).link = s.link := rfl
@[simp] theorem claimOff_notices : (claimOff f s).notices = s.notices := rfl
@[simp] theorem claimOff_watches : (claimOff f s).watches = s.watches := rfl
@[simp] theorem claimOff_signals : (claimOff f s).signals = s.signals := rfl
@[simp] theorem claimOff_cab : (claimOff f s).cab = s.cab := rfl
@[simp] theorem claimOff_lamps : (claimOff f s).lamps = s.lamps := rfl
@[simp] theorem claimOff_flash : (claimOff f s).flash = s.flash := rfl
@[simp] theorem claimOff_bus : (claimOff f s).bus = s.bus := rfl
@[simp] theorem claimOff_attach : (claimOff f s).attach = s.attach := rfl
@[simp] theorem claimOff_members : (claimOff f s).members = s.members := rfl
@[simp] theorem claimOff_mode : (claimOff f s).mode = s.mode := rfl
@[simp] theorem claimOff_group : (claimOff f s).group = s.group := rfl
@[simp] theorem claimOff_permits : (claimOff f s).permits = s.permits := rfl
@[simp] theorem claimOff_order : (claimOff f s).order = s.order := rfl
@[simp] theorem claimOff_confirmed : (claimOff f s).confirmed = s.confirmed := rfl
@[simp] theorem claimOff_authority : (claimOff f s).authority = s.authority := rfl
@[simp] theorem claimOff_awaitingOff : (claimOff f s).awaitingOff = s.awaitingOff := rfl
@[simp] theorem claimOff_setting : (claimOff f s).setting = s.setting := rfl
@[simp] theorem claimOff_trip : (claimOff f s).trip = s.trip := rfl
@[simp] theorem claimOff_bypass : (claimOff f s).bypass = s.bypass := rfl
@[simp] theorem claimOff_choices : (claimOff f s).choices = s.choices := rfl
end

section
variable (f : PairId → Bool) (c : Side) (s : State)
@[simp] theorem claimOn_pending : (claimOn f c s).pending = s.pending := rfl
@[simp] theorem claimOn_time : (claimOn f c s).time = s.time := rfl
@[simp] theorem claimOn_timing : (claimOn f c s).timing = s.timing := rfl
@[simp] theorem claimOn_link : (claimOn f c s).link = s.link := rfl
@[simp] theorem claimOn_notices : (claimOn f c s).notices = s.notices := rfl
@[simp] theorem claimOn_watches : (claimOn f c s).watches = s.watches := rfl
@[simp] theorem claimOn_signals : (claimOn f c s).signals = s.signals := rfl
@[simp] theorem claimOn_cab : (claimOn f c s).cab = s.cab := rfl
@[simp] theorem claimOn_lamps : (claimOn f c s).lamps = s.lamps := rfl
@[simp] theorem claimOn_flash : (claimOn f c s).flash = s.flash := rfl
@[simp] theorem claimOn_bus : (claimOn f c s).bus = s.bus := rfl
@[simp] theorem claimOn_attach : (claimOn f c s).attach = s.attach := rfl
@[simp] theorem claimOn_members : (claimOn f c s).members = s.members := rfl
@[simp] theorem claimOn_mode : (claimOn f c s).mode = s.mode := rfl
@[simp] theorem claimOn_group : (claimOn f c s).group = s.group := rfl
@[simp] theorem claimOn_permits : (claimOn f c s).permits = s.permits := rfl
@[simp] theorem claimOn_order : (claimOn f c s).order = s.order := rfl
@[simp] theorem claimOn_confirmed : (claimOn f c s).confirmed = s.confirmed := rfl
@[simp] theorem claimOn_authority : (claimOn f c s).authority = s.authority := rfl
@[simp] theorem claimOn_awaitingOff : (claimOn f c s).awaitingOff = s.awaitingOff := rfl
@[simp] theorem claimOn_setting : (claimOn f c s).setting = s.setting := rfl
@[simp] theorem claimOn_trip : (claimOn f c s).trip = s.trip := rfl
@[simp] theorem claimOn_bypass : (claimOn f c s).bypass = s.bypass := rfl
@[simp] theorem claimOn_choices : (claimOn f c s).choices = s.choices := rfl
end

section
variable (f : PairId → Bool) (s : State)
@[simp] theorem letGo_pending : (letGo f s).pending = s.pending := rfl
@[simp] theorem letGo_time : (letGo f s).time = s.time := rfl
@[simp] theorem letGo_timing : (letGo f s).timing = s.timing := rfl
@[simp] theorem letGo_link : (letGo f s).link = s.link := rfl
@[simp] theorem letGo_notices : (letGo f s).notices = s.notices := rfl
@[simp] theorem letGo_watches : (letGo f s).watches = s.watches := rfl
@[simp] theorem letGo_signals : (letGo f s).signals = s.signals := rfl
@[simp] theorem letGo_cab : (letGo f s).cab = s.cab := rfl
@[simp] theorem letGo_lamps : (letGo f s).lamps = s.lamps := rfl
@[simp] theorem letGo_flash : (letGo f s).flash = s.flash := rfl
@[simp] theorem letGo_bus : (letGo f s).bus = s.bus := rfl
@[simp] theorem letGo_attach : (letGo f s).attach = s.attach := rfl
@[simp] theorem letGo_members : (letGo f s).members = s.members := rfl
@[simp] theorem letGo_mode : (letGo f s).mode = s.mode := rfl
@[simp] theorem letGo_group : (letGo f s).group = s.group := rfl
@[simp] theorem letGo_permits : (letGo f s).permits = s.permits := rfl
@[simp] theorem letGo_order : (letGo f s).order = s.order := rfl
@[simp] theorem letGo_confirmed : (letGo f s).confirmed = s.confirmed := rfl
@[simp] theorem letGo_authority : (letGo f s).authority = s.authority := rfl
@[simp] theorem letGo_awaitingOff : (letGo f s).awaitingOff = s.awaitingOff := rfl
@[simp] theorem letGo_setting : (letGo f s).setting = s.setting := rfl
@[simp] theorem letGo_trip : (letGo f s).trip = s.trip := rfl
@[simp] theorem letGo_bypass : (letGo f s).bypass = s.bypass := rfl
@[simp] theorem letGo_choices : (letGo f s).choices = s.choices := rfl
end

section
variable (f : PairId → Bool) (s : State)
@[simp] theorem clearLatches_pending : (clearLatches f s).pending = s.pending := rfl
@[simp] theorem clearLatches_time : (clearLatches f s).time = s.time := rfl
@[simp] theorem clearLatches_timing : (clearLatches f s).timing = s.timing := rfl
@[simp] theorem clearLatches_link : (clearLatches f s).link = s.link := rfl
@[simp] theorem clearLatches_notices : (clearLatches f s).notices = s.notices := rfl
@[simp] theorem clearLatches_watches : (clearLatches f s).watches = s.watches := rfl
@[simp] theorem clearLatches_signals : (clearLatches f s).signals = s.signals := rfl
@[simp] theorem clearLatches_cab : (clearLatches f s).cab = s.cab := rfl
@[simp] theorem clearLatches_lamps : (clearLatches f s).lamps = s.lamps := rfl
@[simp] theorem clearLatches_flash : (clearLatches f s).flash = s.flash := rfl
@[simp] theorem clearLatches_bus : (clearLatches f s).bus = s.bus := rfl
@[simp] theorem clearLatches_attach : (clearLatches f s).attach = s.attach := rfl
@[simp] theorem clearLatches_members : (clearLatches f s).members = s.members := rfl
@[simp] theorem clearLatches_mode : (clearLatches f s).mode = s.mode := rfl
@[simp] theorem clearLatches_group : (clearLatches f s).group = s.group := rfl
@[simp] theorem clearLatches_permits : (clearLatches f s).permits = s.permits := rfl
@[simp] theorem clearLatches_order : (clearLatches f s).order = s.order := rfl
@[simp] theorem clearLatches_confirmed : (clearLatches f s).confirmed = s.confirmed := rfl
@[simp] theorem clearLatches_authority : (clearLatches f s).authority = s.authority := rfl
@[simp] theorem clearLatches_awaitingOff : (clearLatches f s).awaitingOff = s.awaitingOff := rfl
@[simp] theorem clearLatches_setting : (clearLatches f s).setting = s.setting := rfl
@[simp] theorem clearLatches_trip : (clearLatches f s).trip = s.trip := rfl
@[simp] theorem clearLatches_bypass : (clearLatches f s).bypass = s.bypass := rfl
@[simp] theorem clearLatches_choices : (clearLatches f s).choices = s.choices := rfl
end

section
variable (hb : Headblock) (f : Bus → Bus) (s : State)
@[simp] theorem updateBus_pending : (updateBus hb f s).pending = s.pending := rfl
@[simp] theorem updateBus_time : (updateBus hb f s).time = s.time := rfl
@[simp] theorem updateBus_timing : (updateBus hb f s).timing = s.timing := rfl
@[simp] theorem updateBus_link : (updateBus hb f s).link = s.link := rfl
@[simp] theorem updateBus_notices : (updateBus hb f s).notices = s.notices := rfl
@[simp] theorem updateBus_watches : (updateBus hb f s).watches = s.watches := rfl
@[simp] theorem updateBus_signals : (updateBus hb f s).signals = s.signals := rfl
@[simp] theorem updateBus_cab : (updateBus hb f s).cab = s.cab := rfl
@[simp] theorem updateBus_lamps : (updateBus hb f s).lamps = s.lamps := rfl
@[simp] theorem updateBus_flash : (updateBus hb f s).flash = s.flash := rfl
@[simp] theorem updateBus_attach : (updateBus hb f s).attach = s.attach := rfl
@[simp] theorem updateBus_members : (updateBus hb f s).members = s.members := rfl
@[simp] theorem updateBus_mode : (updateBus hb f s).mode = s.mode := rfl
@[simp] theorem updateBus_group : (updateBus hb f s).group = s.group := rfl
@[simp] theorem updateBus_permits : (updateBus hb f s).permits = s.permits := rfl
@[simp] theorem updateBus_order : (updateBus hb f s).order = s.order := rfl
@[simp] theorem updateBus_confirmed : (updateBus hb f s).confirmed = s.confirmed := rfl
@[simp] theorem updateBus_authority : (updateBus hb f s).authority = s.authority := rfl
@[simp] theorem updateBus_pairs : (updateBus hb f s).pairs = s.pairs := rfl
@[simp] theorem updateBus_awaitingOff : (updateBus hb f s).awaitingOff = s.awaitingOff := rfl
@[simp] theorem updateBus_setting : (updateBus hb f s).setting = s.setting := rfl
@[simp] theorem updateBus_trip : (updateBus hb f s).trip = s.trip := rfl
@[simp] theorem updateBus_bypass : (updateBus hb f s).bypass = s.bypass := rfl
@[simp] theorem updateBus_choices : (updateBus hb f s).choices = s.choices := rfl
end

section
variable (hb : Headblock) (f : Attach → Attach) (s : State)
@[simp] theorem updateAttach_pending : (updateAttach hb f s).pending = s.pending := rfl
@[simp] theorem updateAttach_time : (updateAttach hb f s).time = s.time := rfl
@[simp] theorem updateAttach_timing : (updateAttach hb f s).timing = s.timing := rfl
@[simp] theorem updateAttach_link : (updateAttach hb f s).link = s.link := rfl
@[simp] theorem updateAttach_notices : (updateAttach hb f s).notices = s.notices := rfl
@[simp] theorem updateAttach_watches : (updateAttach hb f s).watches = s.watches := rfl
@[simp] theorem updateAttach_signals : (updateAttach hb f s).signals = s.signals := rfl
@[simp] theorem updateAttach_cab : (updateAttach hb f s).cab = s.cab := rfl
@[simp] theorem updateAttach_lamps : (updateAttach hb f s).lamps = s.lamps := rfl
@[simp] theorem updateAttach_flash : (updateAttach hb f s).flash = s.flash := rfl
@[simp] theorem updateAttach_bus : (updateAttach hb f s).bus = s.bus := rfl
@[simp] theorem updateAttach_members : (updateAttach hb f s).members = s.members := rfl
@[simp] theorem updateAttach_mode : (updateAttach hb f s).mode = s.mode := rfl
@[simp] theorem updateAttach_group : (updateAttach hb f s).group = s.group := rfl
@[simp] theorem updateAttach_permits : (updateAttach hb f s).permits = s.permits := rfl
@[simp] theorem updateAttach_order : (updateAttach hb f s).order = s.order := rfl
@[simp] theorem updateAttach_confirmed : (updateAttach hb f s).confirmed = s.confirmed := rfl
@[simp] theorem updateAttach_authority : (updateAttach hb f s).authority = s.authority := rfl
@[simp] theorem updateAttach_pairs : (updateAttach hb f s).pairs = s.pairs := rfl
@[simp] theorem updateAttach_awaitingOff : (updateAttach hb f s).awaitingOff = s.awaitingOff := rfl
@[simp] theorem updateAttach_setting : (updateAttach hb f s).setting = s.setting := rfl
@[simp] theorem updateAttach_trip : (updateAttach hb f s).trip = s.trip := rfl
@[simp] theorem updateAttach_bypass : (updateAttach hb f s).bypass = s.bypass := rfl
@[simp] theorem updateAttach_choices : (updateAttach hb f s).choices = s.choices := rfl
end

section
variable (hb : Headblock) (f : SettingUnit → SettingUnit) (s : State)
@[simp] theorem updateSetting_pending : (updateSetting hb f s).pending = s.pending := rfl
@[simp] theorem updateSetting_time : (updateSetting hb f s).time = s.time := rfl
@[simp] theorem updateSetting_timing : (updateSetting hb f s).timing = s.timing := rfl
@[simp] theorem updateSetting_link : (updateSetting hb f s).link = s.link := rfl
@[simp] theorem updateSetting_notices : (updateSetting hb f s).notices = s.notices := rfl
@[simp] theorem updateSetting_watches : (updateSetting hb f s).watches = s.watches := rfl
@[simp] theorem updateSetting_signals : (updateSetting hb f s).signals = s.signals := rfl
@[simp] theorem updateSetting_cab : (updateSetting hb f s).cab = s.cab := rfl
@[simp] theorem updateSetting_lamps : (updateSetting hb f s).lamps = s.lamps := rfl
@[simp] theorem updateSetting_flash : (updateSetting hb f s).flash = s.flash := rfl
@[simp] theorem updateSetting_bus : (updateSetting hb f s).bus = s.bus := rfl
@[simp] theorem updateSetting_attach : (updateSetting hb f s).attach = s.attach := rfl
@[simp] theorem updateSetting_members : (updateSetting hb f s).members = s.members := rfl
@[simp] theorem updateSetting_mode : (updateSetting hb f s).mode = s.mode := rfl
@[simp] theorem updateSetting_group : (updateSetting hb f s).group = s.group := rfl
@[simp] theorem updateSetting_permits : (updateSetting hb f s).permits = s.permits := rfl
@[simp] theorem updateSetting_order : (updateSetting hb f s).order = s.order := rfl
@[simp] theorem updateSetting_confirmed : (updateSetting hb f s).confirmed = s.confirmed := rfl
@[simp] theorem updateSetting_authority : (updateSetting hb f s).authority = s.authority := rfl
@[simp] theorem updateSetting_pairs : (updateSetting hb f s).pairs = s.pairs := rfl
@[simp] theorem updateSetting_awaitingOff : (updateSetting hb f s).awaitingOff = s.awaitingOff := rfl
@[simp] theorem updateSetting_trip : (updateSetting hb f s).trip = s.trip := rfl
@[simp] theorem updateSetting_bypass : (updateSetting hb f s).bypass = s.bypass := rfl
@[simp] theorem updateSetting_choices : (updateSetting hb f s).choices = s.choices := rfl
end

section
variable (i : CabInput) (f : CabIn → CabIn) (s : State)
@[simp] theorem updateCab_pending : (updateCab i f s).pending = s.pending := rfl
@[simp] theorem updateCab_time : (updateCab i f s).time = s.time := rfl
@[simp] theorem updateCab_timing : (updateCab i f s).timing = s.timing := rfl
@[simp] theorem updateCab_link : (updateCab i f s).link = s.link := rfl
@[simp] theorem updateCab_notices : (updateCab i f s).notices = s.notices := rfl
@[simp] theorem updateCab_watches : (updateCab i f s).watches = s.watches := rfl
@[simp] theorem updateCab_signals : (updateCab i f s).signals = s.signals := rfl
@[simp] theorem updateCab_lamps : (updateCab i f s).lamps = s.lamps := rfl
@[simp] theorem updateCab_flash : (updateCab i f s).flash = s.flash := rfl
@[simp] theorem updateCab_bus : (updateCab i f s).bus = s.bus := rfl
@[simp] theorem updateCab_attach : (updateCab i f s).attach = s.attach := rfl
@[simp] theorem updateCab_members : (updateCab i f s).members = s.members := rfl
@[simp] theorem updateCab_mode : (updateCab i f s).mode = s.mode := rfl
@[simp] theorem updateCab_group : (updateCab i f s).group = s.group := rfl
@[simp] theorem updateCab_permits : (updateCab i f s).permits = s.permits := rfl
@[simp] theorem updateCab_order : (updateCab i f s).order = s.order := rfl
@[simp] theorem updateCab_confirmed : (updateCab i f s).confirmed = s.confirmed := rfl
@[simp] theorem updateCab_authority : (updateCab i f s).authority = s.authority := rfl
@[simp] theorem updateCab_pairs : (updateCab i f s).pairs = s.pairs := rfl
@[simp] theorem updateCab_awaitingOff : (updateCab i f s).awaitingOff = s.awaitingOff := rfl
@[simp] theorem updateCab_setting : (updateCab i f s).setting = s.setting := rfl
@[simp] theorem updateCab_trip : (updateCab i f s).trip = s.trip := rfl
@[simp] theorem updateCab_bypass : (updateCab i f s).bypass = s.bypass := rfl
@[simp] theorem updateCab_choices : (updateCab i f s).choices = s.choices := rfl
end

end Sys2Proof.Machine
end

