-- ==== Sys2Proof/Laws/Frame.lean ====
section
/-! SUPPORT. Frames: `keeps` is reflexive and transitive, and one lemma for each shared operation says which parts of
the state it may change. -/

namespace Sys2Proof.Machine

-- One theorem at a time: proofs that wait for one another hold a thread each.
set_option Elab.async false

/-! ## The algebra of frames -/

theorem Field.same_refl (s : State) (f : Field) : f.same s s := by
  cases f <;> simp [Field.same]

theorem Field.same_trans {s t u : State} {f : Field} (h : f.same s t) (k : f.same t u) : f.same s u := by
  cases f
  case nodes => exact fun hb n => (k hb n).trans (h hb n)
  all_goals simp_all [Field.same]

theorem keeps.refl (l : List Field) (s : State) : keeps l s s := fun f _ => Field.same_refl s f

theorem keeps.mono {a b : List Field} {s t : State} (h : keeps a s t) (sub : a ⊆ b) : keeps b s t :=
  fun f hf => h f fun ha => hf (sub ha)

theorem keeps.trans {l : List Field} {s t u : State} (h : keeps l s t) (k : keeps l t u) : keeps l s u :=
  fun f hf => Field.same_trans (h f hf) (k f hf)

/-- Two frames in a row, read in one list that holds both. -/
theorem keeps.then {a b l : List Field} {s t u : State} (h : keeps a s t) (k : keeps b t u)
    (ha : a ⊆ l := by decide) (hb : b ⊆ l := by decide) : keeps l s u :=
  (h.mono ha).trans (k.mono hb)

/-! ## Reading a frame -/

section
variable {l : List Field} {s t : State} (h : keeps l s t)
include h
theorem keeps.pending_eq (hf : Field.pending ∉ l := by decide) : t.pending = s.pending := h .pending hf
theorem keeps.time_eq (hf : Field.time ∉ l := by decide) : t.time = s.time := h .time hf
theorem keeps.timing_eq (hf : Field.timing ∉ l := by decide) : t.timing = s.timing := h .timing hf
theorem keeps.queue_eq (hf : Field.queue ∉ l := by decide) : t.link.queue = s.link.queue := h .queue hf
theorem keeps.reply_eq (hf : Field.reply ∉ l := by decide) : t.link.reply = s.link.reply := h .reply hf
theorem keeps.tx_eq (hf : Field.tx ∉ l := by decide) : t.link.tx = s.link.tx := h .tx hf
theorem keeps.notices_eq (hf : Field.notices ∉ l := by decide) : t.notices = s.notices := h .notices hf
theorem keeps.watches_eq (hf : Field.watches ∉ l := by decide) : t.watches = s.watches := h .watches hf
theorem keeps.signals_eq (hf : Field.signals ∉ l := by decide) : t.signals = s.signals := h .signals hf
theorem keeps.cab_eq (hf : Field.cab ∉ l := by decide) : t.cab = s.cab := h .cab hf
theorem keeps.lamps_eq (hf : Field.lamps ∉ l := by decide) : t.lamps = s.lamps := h .lamps hf
theorem keeps.flash_eq (hf : Field.flash ∉ l := by decide) : t.flash = s.flash := h .flash hf
theorem keeps.traffic_eq (hf : Field.traffic ∉ l := by decide) : t.bus = s.bus := h .traffic hf
theorem keeps.attach_eq (hf : Field.attach ∉ l := by decide) : t.attach = s.attach := h .attach hf
theorem keeps.members_eq (hf : Field.members ∉ l := by decide) : t.members = s.members := h .members hf
theorem keeps.mode_eq (hf : Field.mode ∉ l := by decide) : t.mode = s.mode := h .mode hf
theorem keeps.memberList_eq (hf : Field.memberList ∉ l := by decide) : t.group.members = s.group.members := h .memberList hf
theorem keeps.permits_eq (hf : Field.permits ∉ l := by decide) : t.permits = s.permits := h .permits hf
theorem keeps.order_eq (hf : Field.order ∉ l := by decide) : t.order = s.order := h .order hf
theorem keeps.authority_eq (hf : Field.authority ∉ l := by decide) : t.authority = s.authority := h .authority hf
theorem keeps.pairs_eq (hf : Field.pairs ∉ l := by decide) : t.pairs = s.pairs := h .pairs hf
theorem keeps.awaitingOff_eq (hf : Field.awaitingOff ∉ l := by decide) : t.awaitingOff = s.awaitingOff := h .awaitingOff hf
theorem keeps.setting_eq (hf : Field.setting ∉ l := by decide) : t.setting = s.setting := h .setting hf
theorem keeps.trip_eq (hf : Field.trip ∉ l := by decide) : t.trip = s.trip := h .trip hf
theorem keeps.bypass_eq (hf : Field.bypass ∉ l := by decide) : t.bypass = s.bypass := (h .bypass hf).1
theorem keeps.choices_eq (hf : Field.bypass ∉ l := by decide) : t.choices = s.choices := (h .bypass hf).2
theorem keeps.confirmed_eq (hf : Field.confirmed ∉ l := by decide) : t.confirmed = s.confirmed := h .confirmed hf
theorem keeps.rx_eq (hf : Field.receiver ∉ l := by decide) : t.link.rx = s.link.rx := (h .receiver hf).1
theorem keeps.lastByte_eq (hf : Field.receiver ∉ l := by decide) : t.link.lastByte = s.link.lastByte := (h .receiver hf).2
theorem keeps.state_eq (hf : Field.groupState ∉ l := by decide) : t.group.state = s.group.state := (h .groupState hf).1
theorem keeps.summary_eq (hf : Field.groupState ∉ l := by decide) : t.group.summary = s.group.summary := (h .groupState hf).2
theorem keeps.pair_eq (p : PairId) (hf : Field.pairs ∉ l := by decide) : t.pair p = s.pair p := by
  simp [State.pair, keeps.pairs_eq h hf]
theorem keeps.member_eq (m : Member) (hf : Field.members ∉ l := by decide) : t.member m = s.member m := by
  simp [State.member, keeps.members_eq h hf]
end

/-! ## Updates -/

section
variable (s : State)

theorem advanceTo_keeps (d : Nat) : keeps [.time] s (advanceTo d s) := by
  intro f hf; cases f <;> simp_all [Field.same, State.node]

theorem postAll_keeps (bs : List NoticeBody) : keeps [.notices] s (postAll bs s) := by
  intro f hf; cases f <;> simp_all [Field.same, State.node]

theorem post_keeps (b : NoticeBody) : keeps [.notices] s (post b s) := postAll_keeps s [b]

theorem updateMembers_keeps (f : Member → MemberRec → MemberRec) : keeps [.members] s (updateMembers f s) := by
  intro f hf; cases f <;> simp_all [Field.same, State.node]

theorem updatePairs_keeps (f : PairId → Pair → Pair) : keeps [.pairs] s (updatePairs f s) := by
  intro f hf; cases f <;> simp_all [Field.same, State.node]

theorem claimOff_keeps (p : PairId → Bool) : keeps [.pairs] s (claimOff p s) := updatePairs_keeps s _

theorem claimOn_keeps (p : PairId → Bool) (c : Side) : keeps [.pairs] s (claimOn p c s) := updatePairs_keeps s _

theorem letGo_keeps (p : PairId → Bool) : keeps [.pairs] s (letGo p s) := updatePairs_keeps s _

theorem clearLatches_keeps (p : PairId → Bool) : keeps [.pairs] s (clearLatches p s) := updatePairs_keeps s _

theorem clearMismatches_keeps (p : PairId → Bool) : keeps [.pairs] s (clearMismatches p s) := updatePairs_keeps s _

theorem updateBus_keeps (hb : Headblock) (f : Bus → Bus) : keeps [.nodes, .traffic] s (updateBus hb f s) := by
  intro f hf; cases f <;> simp_all [Field.same]

theorem updateAttach_keeps (hb : Headblock) (f : Attach → Attach) : keeps [.attach] s (updateAttach hb f s) := by
  intro f hf; cases f <;> simp_all [Field.same, State.node]

theorem updateSetting_keeps (hb : Headblock) (f : SettingUnit → SettingUnit) :
    keeps [.setting] s (updateSetting hb f s) := by
  intro f hf; cases f <;> simp_all [Field.same, State.node]

theorem setOp_keeps (hb : Headblock) (op : SetOp) : keeps [.setting] s (setOp hb op s) := updateSetting_keeps s _ _

theorem updateCab_keeps (i : CabInput) (f : CabIn → CabIn) : keeps [.cab] s (updateCab i f s) := by
  intro f hf; cases f <;> simp_all [Field.same, State.node]

theorem setOrder_keeps (o : OrderRec) : keeps [.order] s { s with order := o } := by
  intro f hf; cases f <;> simp_all [Field.same, State.node]

theorem setTrip_keeps (t : TripUnit) : keeps [.trip] s { s with trip := t } := by
  intro f hf; cases f <;> simp_all [Field.same, State.node]

/-! ## Orders -/

theorem endToIdle_keeps (head : OrderHead) (reason : EndReason) (ms : List OrderMember) :
    keeps [.order, .notices] s (endToIdle head reason ms s) :=
  (setOrder_keeps s _).then (postAll_keeps _ _)

theorem enterFaultHeld_keeps (head : OrderHead) (reason : EndReason) (ms : List OrderMember) :
    keeps [.order, .notices] s (enterFaultHeld head reason ms s) :=
  (setOrder_keeps s _).then (postAll_keeps _ _)

/-- R47: an abort touches the order record, the coil pairs and the notices. -/
theorem abortOrder_keeps (reason : EndReason) (failed : OrderMember → Bool) :
    keeps [.order, .pairs, .notices] s (abortOrder reason failed s) := by
  unfold abortOrder
  split
  · exact (letGo_keeps s _).then (enterFaultHeld_keeps _ _ _ _)
  all_goals exact keeps.refl _ s

theorem setProgress_keeps (new : List OrderMember) : keeps [.order, .pairs, .notices] s (setProgress new s) := by
  unfold setProgress
  split
  · have claims := fun o f g c => ((setOrder_keeps s o).then (claimOff_keeps _ f) (l := [.order, .pairs])).then
      (claimOn_keeps _ g c) (l := [.order, .pairs, .notices])
    simp only
    split
    · exact ((claims _ _ _ _).then (letGo_keeps _ _) (l := [.order, .pairs, .notices])).then (endToIdle_keeps _ _ _ _)
    · split
      · exact claims _ _ _ _
      · exact (claims _ _ _ _).then (post_keeps _ _)
  all_goals exact keeps.refl _ s

theorem beginTurning_keeps (head : OrderHead) : keeps [.order, .pairs, .notices] s (beginTurning head s) :=
  ((setOrder_keeps s _).then (claimOff_keeps _ _) (l := [.order, .pairs])).then (postAll_keeps _ _)

theorem checkOrder_keeps (head : OrderHead) (hold : Option (List Member)) :
    keeps [.order, .pairs, .notices] s (checkOrder head hold s) := by
  unfold checkOrder
  simp only
  split
  · exact (post_keeps s _).then (beginTurning_keeps _ _)
  · split
    · exact (post_keeps s _).then (enterFaultHeld_keeps _ _ _ _)
    · exact (post_keeps s _).then (endToIdle_keeps _ _ _ _)

theorem propose_keeps (head : OrderHead) : keeps [.order, .notices] s (propose head s) :=
  (setOrder_keeps s _).then (post_keeps _ _)

theorem orderBypassLeft_keeps : keeps [.order, .pairs, .notices] s (orderBypassLeft s) := by
  unfold orderBypassLeft
  split
  · exact (endToIdle_keeps s _ _ _).mono (by decide)
  · exact abortOrder_keeps s _ _
  all_goals exact keeps.refl _ s

theorem orderOnReply_keeps (hb : Headblock) (n : NodeIx) (latching : List PairId) (old : State) :
    keeps [.order, .pairs, .notices] s (orderOnReply hb n latching old s) := by
  unfold orderOnReply
  split
  · simp only
    split
    · exact abortOrder_keeps s _ _
    split
    · exact abortOrder_keeps s _ _
    split
    · exact abortOrder_keeps s _ _
    · exact setProgress_keeps s _
  all_goals exact keeps.refl _ s

theorem orderNodeLost_keeps (hb : Headblock) (n : NodeIx) :
    keeps [.order, .pairs, .notices] s (orderNodeLost hb n s) := by
  unfold orderNodeLost
  simp only
  split
  · exact abortOrder_keeps s _ _
  · exact keeps.refl _ s

theorem pressOrder_keeps (kind : OrderKind) : keeps [.order, .pairs, .notices] s (pressOrder kind s) := by
  unfold pressOrder
  split
  · split
    · exact (post_keeps s _).mono (by decide)
    · exact (endToIdle_keeps s _ _ _).mono (by decide)
  all_goals
    split
    · exact (post_keeps s _).mono (by decide)
    · exact checkOrder_keeps s _ _

theorem setConfirmed_keeps (c : Option (OrderKind × Nat)) : keeps [.confirmed] s { s with confirmed := c } := by
  intro f hf; cases f <;> simp_all [Field.same, State.node]

theorem pressConfirm_keeps : keeps [.confirmed, .order, .pairs, .notices] s (pressConfirm s) := by
  unfold pressConfirm
  split
  · exact (setConfirmed_keeps s _).then (checkOrder_keeps _ _ _)
  all_goals exact (post_keeps s _).mono (by decide)

/-! ## Group, bypass, setting -/

theorem rederive_keeps (named : Member → Bool) : keeps [.members] s (rederive named s) := updateMembers_keeps s _

theorem compose_keeps : keeps [.memberList, .order, .pairs, .notices] s (compose s) := by
  unfold compose
  split
  · exact keeps.refl _ s
  · refine keeps.then (a := [.memberList]) ?_ (abortOrder_keeps _ _ _)
    intro f hf; cases f <;> simp_all [Field.same, State.node]

theorem leaveBypass_keeps (cause : LeaveCause) :
    keeps [.bypass, .order, .pairs, .notices] s (leaveBypass cause s) := by
  unfold leaveBypass
  split
  · exact keeps.refl _ s
  · refine keeps.then (a := [.bypass, .notices]) ?_ (orderBypassLeft_keeps _)
    intro f hf; cases f <;> simp_all [Field.same, State.node]

/-- What the Spreader Setting Unit's actions may change. -/
theorem abortSetOp_keeps (hb : Headblock) (reason : SetReason) :
    keeps [.setting, .memberList, .order, .pairs, .notices] s (abortSetOp hb reason s) := by
  unfold abortSetOp
  split
  · exact keeps.refl _ s
  · exact (((letGo_keeps s _).then (updateSetting_keeps _ _ _) (l := [.setting, .pairs])).then (post_keeps _ _)
      (l := [.setting, .pairs, .notices])).then (compose_keeps _)

theorem completeSetOp_keeps (hb : Headblock) (op : SetOp) :
    keeps [.setting, .memberList, .order, .pairs, .notices] s (completeSetOp hb op s) :=
  (((letGo_keeps s _).then (updateSetting_keeps _ _ _) (l := [.setting, .pairs])).then (post_keeps _ _)
    (l := [.setting, .pairs, .notices])).then (compose_keeps _)

theorem driveStep_keeps (hb : Headblock) (op : SetOp) : keeps [.setting, .pairs] s (driveStep hb op s) :=
  (setOp_keeps s _ _).then (claimOn_keeps _ _ _)

theorem enterStepDeadWait_keeps (hb : Headblock) (op : SetOp) :
    keeps [.setting, .pairs] s (enterStepDeadWait hb op s) := by
  unfold enterStepDeadWait
  split
  · exact driveStep_keeps s _ _
  · exact (setOp_keeps s _ _).mono (by decide)

theorem beginStep_keeps (hb : Headblock) (op : SetOp) : keeps [.setting, .pairs] s (beginStep hb op s) := by
  unfold beginStep
  split
  · exact enterStepDeadWait_keeps s _ _
  · exact (setOp_keeps s _ _).mono (by decide)

theorem takeStep_keeps (hb : Headblock) (op : SetOp) (name : StepName) (input : Byte) :
    keeps [.setting, .memberList, .order, .pairs, .notices] s (takeStep hb op name input s) := by
  unfold takeStep
  split
  · exact (beginStep_keeps s _ _).mono (by decide)
  · exact (setOp_keeps s _ _).then (abortSetOp_keeps _ _ _)

theorem endStep_keeps (hb : Headblock) (op : SetOp) (input : Byte) :
    keeps [.setting, .memberList, .order, .pairs, .notices] s (endStep hb op input s) := by
  unfold endStep
  split
  · exact takeStep_keeps s _ _ _ _
  · exact completeSetOp_keeps s _ _

theorem stepOnReply_keeps (hb : Headblock) (op : SetOp) (input : Byte) :
    keeps [.setting, .memberList, .order, .pairs, .notices] s (stepOnReply hb op input s) := by
  unfold stepOnReply
  simp only
  split
  · split
    · exact (enterStepDeadWait_keeps s _ _).mono (by decide)
    · exact keeps.refl _ s
  · split
    · exact (setOp_keeps s _ _).mono (by decide)
    · exact keeps.refl _ s
  · split
    · exact (setOp_keeps s _ _).then (claimOff_keeps _ _)
    · exact keeps.refl _ s
  · split
    · exact endStep_keeps s _ _ _
    · exact keeps.refl _ s

theorem watchSetting_keeps (hb : Headblock) (setting : Setting) (input : Byte) :
    keeps [.setting, .memberList, .order, .pairs, .notices] s (watchSetting hb setting input s) := by
  unfold watchSetting
  split
  · exact (updateSetting_keeps s _ _).mono (by decide)
  split
  · exact (updateSetting_keeps s _ _).mono (by decide)
  · exact (updateSetting_keeps s _ _).then (compose_keeps _)

theorem settingOnReply_keeps (hb : Headblock) (n : NodeIx) (latching : List PairId) (input : Byte) :
    keeps [.setting, .memberList, .order, .pairs, .notices] s (settingOnReply hb n latching input s) := by
  unfold settingOnReply
  split
  · unfold settingOnBodyReply
    split
    · split
      · exact abortSetOp_keeps s _ _
      · exact stepOnReply_keeps s _ _ _
    · split
      · exact watchSetting_keeps s _ _ _
      · exact keeps.refl _ s
    · exact keeps.refl _ s
  split
  · unfold settingOnCornerReply
    split
    · exact abortSetOp_keeps s _ _
    · exact keeps.refl _ s
  · exact keeps.refl _ s

theorem settingNodeLost_keeps (hb : Headblock) (n : NodeIx) :
    keeps [.setting, .memberList, .order, .pairs, .notices] s (settingNodeLost hb n s) := by
  unfold settingNodeLost
  split
  · exact abortSetOp_keeps s _ _
  · exact keeps.refl _ s

theorem acceptSet_keeps (hb : Headblock) (target : Setting) :
    keeps [.setting, .memberList, .order, .pairs, .notices] s (acceptSet hb target s) := by
  unfold acceptSet
  split
  · exact ((updateSetting_keeps s _ _).then (post_keeps _ _) (l := [.setting, .notices])).then (compose_keeps _)
  · split
    · exact ((updateSetting_keeps s _ _).then (post_keeps _ _) (l := [.setting, .notices])).then (compose_keeps _)
    · exact ((updateSetting_keeps s _ _).then (takeStep_keeps _ _ _ _ _)
        (l := [.setting, .memberList, .order, .pairs, .notices])).then (compose_keeps _)

/-! ## Confirming coils off, trip hold -/

theorem reportConfirmedOff_keeps : keeps [.trip, .notices] s (reportConfirmedOff s) := by
  unfold reportConfirmedOff
  split
  · exact (setTrip_keeps s _).then (post_keeps _ _)
  all_goals exact keeps.refl _ s

theorem setAwaiting_keeps (l : List PairId) : keeps [.awaitingOff] s { s with awaitingOff := l } := by
  intro f hf; cases f <;> simp_all [Field.same, State.node]

/-- R73: pairs leaving the awaiting-off set may take the trip unit to HELD, and change nothing else. -/
theorem dropAwaiting_keeps (gone : PairId → Bool) :
    keeps [.awaitingOff, .trip, .notices] s (dropAwaiting gone s) := by
  unfold dropAwaiting
  simp only
  split
  · exact (setAwaiting_keeps s _).then (reportConfirmedOff_keeps _)
  · exact (setAwaiting_keeps s _).mono (by decide)

theorem coilsOnReply_keeps (hb : Headblock) (n : NodeIx) :
    keeps [.pairs, .awaitingOff, .trip, .notices] s (coilsOnReply hb n s) :=
  ((updatePairs_keeps s _).then (postAll_keeps _ _) (l := [.pairs, .notices])).then (dropAwaiting_keeps _ _)

theorem claimForceOff_keeps : keeps [.pairs, .awaitingOff] s (claimForceOff s) :=
  (setAwaiting_keeps s _).then (claimOff_keeps _ _)

end

end Sys2Proof.Machine
end

