-- ==== Sys2Proof/Laws/Finish.lean ====
section
/-! SUPPORT. The common end of every action: what `finish` leaves as it was, what it derives, and the form of every
command as a change followed by it. -/

namespace Sys2Proof.Machine

-- One theorem at a time: proofs that wait for one another hold a thread each.
set_option Elab.async false

/-! ## What the end of an action leaves -/

section
variable (s : State)

theorem received_updateNode (b : Bus) (n m : NodeIx) (f : NodeRec → NodeRec) (hf : ∀ r, (f r).received = r.received) :
    ((b.updateNode n f).node m).map NodeRec.received = (b.node m).map NodeRec.received := by
  unfold Bus.updateNode
  simp only [node_updateNodes]
  split
  · cases b.node m <;> simp [hf]
  · rfl

/-- An update of a bus that leaves every record's received part changes nothing but the traffic. -/
theorem updateBus_traffic (hb : Headblock) (f : Bus → Bus)
    (h : ∀ m, ((f (s.bus.get hb)).node m).map NodeRec.received = ((s.bus.get hb).node m).map NodeRec.received) :
    keeps [.traffic] s (updateBus hb f s) := by
  intro g hg
  cases g
  case nodes =>
    intro hb' m
    by_cases e : hb' = hb
    · subst e; simpa [State.node] using h m
    · simp [State.node, e]
  all_goals simp_all [Field.same]

theorem syncBus_keeps (hb : Headblock) : keeps [.traffic] s (syncBus hb s) := by
  refine updateBus_traffic s hb _ fun m => ?_
  simp only [Bus.node, Bus.updateNodes, get_ofFn]
  cases (s.bus.get hb).nodes.get m <;> simp [NodeRec.received]

theorem evalGroup_keeps : keeps [.groupState] s (evalGroup s) := by
  intro f hf; cases f <;> simp_all [Field.same, State.node, evalGroup]

theorem setPermits_keeps (p : Permits) : keeps [.permits] s { s with permits := p } := by
  intro f hf; cases f <;> simp_all [Field.same, State.node]

theorem evalPermits_keeps : keeps [.permits, .notices] s (evalPermits s) :=
  (setPermits_keeps s _).then (postAll_keeps _ _)

theorem postGroup_keeps (old : State) : keeps [.notices] s (postGroup old s) := postAll_keeps s _

theorem evalLamps_keeps : keeps [.lamps] s (evalLamps s) := by
  intro f hf; cases f <;> simp_all [Field.same, State.node, evalLamps]

theorem setSignals_keeps (v : Vector SignalRec 103) : keeps [.signals] s { s with signals := v } := by
  intro f hf; cases f <;> simp_all [Field.same, State.node]

theorem takeSignals_keeps : keeps [.signals, .notices] s (takeSignals s) :=
  (setSignals_keeps s _).then (postAll_keeps _ _)

theorem transmit_keeps : keeps [.tx] s (transmit s) := by
  intro f hf; cases f <;> simp_all [Field.same, State.node, transmit]

theorem arbitrate_keeps (hb : Headblock) : keeps [.traffic] s (arbitrate hb s) := by
  unfold arbitrate
  split
  · exact updateBus_traffic s hb _ fun m => received_updateNode _ _ _ _ fun _ => rfl
  · exact updateBus_traffic s hb _ fun m => rfl
  · exact updateBus_traffic s hb _ fun m => rfl
  · exact keeps.refl _ s

/-- The end of an action changes only what it brings into agreement with the rest. -/
theorem finish_keeps (old : State) : keeps settled s (finish old s) := by
  have h := ((((syncBus_keeps s .a).mono (b := settled) (by decide)).trans
    ((syncBus_keeps _ .b).mono (by decide))).trans ((evalGroup_keeps _).mono (by decide))).trans
    ((postGroup_keeps _ old).mono (by decide))
  have k := ((h.trans ((evalPermits_keeps _).mono (by decide))).trans ((evalLamps_keeps _).mono (by decide))).trans
    ((takeSignals_keeps _).mono (by decide))
  exact ((k.trans ((arbitrate_keeps _ .a).mono (by decide))).trans ((arbitrate_keeps _ .b).mono (by decide))).trans
    ((transmit_keeps _).mono (by decide))

variable (old : State)

@[simp] theorem finish_pending : (finish old s).pending = s.pending := finish_keeps s old .pending (by decide)
@[simp] theorem finish_time : (finish old s).time = s.time := finish_keeps s old .time (by decide)
@[simp] theorem finish_timing : (finish old s).timing = s.timing := finish_keeps s old .timing (by decide)
@[simp] theorem finish_rx : (finish old s).link.rx = s.link.rx := (finish_keeps s old .receiver (by decide)).1
@[simp] theorem finish_lastByte : (finish old s).link.lastByte = s.link.lastByte :=
  (finish_keeps s old .receiver (by decide)).2
@[simp] theorem finish_queue : (finish old s).link.queue = s.link.queue := finish_keeps s old .queue (by decide)
@[simp] theorem finish_reply : (finish old s).link.reply = s.link.reply := finish_keeps s old .reply (by decide)
@[simp] theorem finish_watches : (finish old s).watches = s.watches := finish_keeps s old .watches (by decide)
@[simp] theorem finish_cab : (finish old s).cab = s.cab := finish_keeps s old .cab (by decide)
@[simp] theorem finish_flash : (finish old s).flash = s.flash := finish_keeps s old .flash (by decide)
@[simp] theorem finish_attach : (finish old s).attach = s.attach := finish_keeps s old .attach (by decide)
@[simp] theorem finish_members : (finish old s).members = s.members := finish_keeps s old .members (by decide)
@[simp] theorem finish_mode : (finish old s).mode = s.mode := finish_keeps s old .mode (by decide)
@[simp] theorem finish_memberList : (finish old s).group.members = s.group.members :=
  finish_keeps s old .memberList (by decide)
@[simp] theorem finish_order : (finish old s).order = s.order := finish_keeps s old .order (by decide)
@[simp] theorem finish_authority : (finish old s).authority = s.authority := finish_keeps s old .authority (by decide)
@[simp] theorem finish_pairs : (finish old s).pairs = s.pairs := finish_keeps s old .pairs (by decide)
@[simp] theorem finish_awaitingOff : (finish old s).awaitingOff = s.awaitingOff :=
  finish_keeps s old .awaitingOff (by decide)
@[simp] theorem finish_setting : (finish old s).setting = s.setting := finish_keeps s old .setting (by decide)
@[simp] theorem finish_trip : (finish old s).trip = s.trip := finish_keeps s old .trip (by decide)
@[simp] theorem finish_bypass : (finish old s).bypass = s.bypass := (finish_keeps s old .bypass (by decide)).1
@[simp] theorem finish_choices : (finish old s).choices = s.choices := (finish_keeps s old .bypass (by decide)).2
@[simp] theorem finish_confirmed : (finish old s).confirmed = s.confirmed := finish_keeps s old .confirmed (by decide)
@[simp] theorem finish_pair (p : PairId) : (finish old s).pair p = s.pair p := by simp [State.pair]
@[simp] theorem finish_member (m : Member) : (finish old s).member m = s.member m := by simp [State.member]

end

/-! ## What the end of an action derives -/

/-- The state of an action's end once the images and the group have been brought into agreement. -/
def grouped (s : State) : State := evalGroup (syncBus .b (syncBus .a s))

/-- The arbiters and the line, which follow everything else. -/
def sent (s : State) : State := transmit (arbitrate .b (arbitrate .a s))

theorem finish_eq (old s : State) :
    finish old s = sent (takeSignals (evalLamps (evalPermits (postGroup old (grouped s))))) := rfl

theorem sent_keeps (s : State) : keeps [.traffic, .tx] s (sent s) :=
  (((arbitrate_keeps s .a).trans (arbitrate_keeps _ .b)).mono (by decide)).trans
    ((transmit_keeps _).mono (by decide))

theorem afterGroup_keeps (old s : State) : keeps [.tx, .notices, .signals, .lamps, .traffic, .permits] (grouped s) (finish old s) := by
  rw [finish_eq]
  exact (((((postGroup_keeps _ old).mono (by decide)).trans ((evalPermits_keeps _).mono (by decide))).trans
    ((evalLamps_keeps _).mono (by decide))).trans ((takeSignals_keeps _).mono (by decide))).trans
    ((sent_keeps _).mono (by decide))

theorem grouped_member (s : State) (m : Member) : (grouped s).member m = s.member m := rfl
theorem grouped_pair (s : State) (p : PairId) : (grouped s).pair p = s.pair p := rfl

/-- R15: the group state after an action. -/
theorem finish_groupState (old s : State) : (finish old s).group.state = s.groupStateOf s.group.members :=
  (afterGroup_keeps old s).state_eq

/-- R15: the landed summary after an action. -/
theorem finish_summary (old s : State) : (finish old s).group.summary = s.summaryOf s.group.members :=
  (afterGroup_keeps old s).summary_eq

/-- The permit causes read the trip unit, bypass, the order, the set operations and the group state alone. -/
theorem causes_congr {s t : State} (h1 : t.trip = s.trip) (h2 : t.bypass = s.bypass) (h3 : t.order = s.order)
    (h4 : t.setting = s.setting) (h5 : t.group.state = s.group.state) :
    t.upCause = s.upCause ∧ t.downCause = s.downCause := by
  simp [State.upCause, State.downCause, State.setOpRuns, State.setOpOn, h1, h2, h3, h4, h5]

theorem evalPermits_permits (s : State) : (evalPermits s).permits = ⟨s.upCause.isNone, s.downCause.isNone⟩ := rfl

/-- R20: the permits after an action. -/
theorem finish_permits (old s : State) :
    (finish old s).permits = ⟨(finish old s).upCause.isNone, (finish old s).downCause.isNone⟩ := by
  rw [finish_eq]
  generalize postGroup old (grouped s) = t
  have k := (((evalLamps_keeps (evalPermits t)).mono (b := [.tx, .notices, .signals, .lamps, .traffic])
    (by decide)).trans ((takeSignals_keeps _).mono (by decide))).trans ((sent_keeps _).mono (by decide))
  have e := evalPermits_keeps t
  obtain ⟨u, d⟩ := causes_congr (k.trip_eq.trans e.trip_eq) (k.bypass_eq.trans e.bypass_eq)
    (k.order_eq.trans e.order_eq) (k.setting_eq.trans e.setting_eq) (k.state_eq.trans e.state_eq)
  rw [k.permits_eq, evalPermits_permits, u, d]

/-! ## Every command is a change and the end of an action -/

/-- A request row is the arrival of its frame. -/
theorem exec_request (i : Instr) (q : Request) (h : requestOf i = some q) (s : State) :
    exec i s = .next (finish s (arrive q s)) := by
  cases i <;> simp only [requestOf, Option.some.injEq, reduceCtorEq] at h <;> subst h <;> rfl

/-- Every command ends in a next state, left by the end of an action. -/
theorem exec_finishes (i : Instr) (s : State) : ∃ old t, exec i s = .next (finish old t) := by
  cases i
  case replySent => simp only [exec, execReplySent]; split <;> exact ⟨_, _, rfl⟩
  all_goals exact ⟨_, _, rfl⟩

/-- A request that finds the queue empty is taken at once (R165). -/
theorem arrive_free (q : Request) (s : State) (free : Free s) (tag : q.tag ≠ 0) :
    arrive q s = putReply ((answerRequest q.kind q.body (enqueue q s)).reply q)
      (answerRequest q.kind q.body (enqueue q s)).state := by
  obtain ⟨hr, hq⟩ := free
  have e : (enqueue q s).link.queue = [q] := by simp [enqueue, hq]
  have r : (enqueue q s).link.reply = none := hr
  rw [arrive, if_neg tag, if_pos (by simp [hq, Config.receiveCapacity])]
  simp only [takeRequest, e, r]

theorem exec_free (i : Instr) (q : Request) (s : State) (h : requestOf i = some q) (free : Free s) (tag : q.tag ≠ 0) :
    exec i s = .next (finish s (putReply ((answerRequest q.kind q.body (enqueue q s)).reply q)
      (answerRequest q.kind q.body (enqueue q s)).state)) := by
  rw [exec_request i q h, arrive_free q s free tag]

end Sys2Proof.Machine
end

