-- ==== Sys2Proof/Laws/Actions.lean ====
section
/-! SUPPORT. Frames of the actions that reach several blocks: attachment changes, bus outcomes, trip edges, requests. -/

namespace Sys2Proof.Machine

-- One theorem at a time: proofs that wait for one another hold a thread each.
set_option Elab.async false

section
variable (s : State)

/-! ## Attachment -/

/-- What a change of attachment state may reach (R128). -/
def attachReach : List Field :=
  [.attach, .notices, .nodes, .traffic, .awaitingOff, .trip, .setting, .members, .memberList, .order, .pairs, .bypass]

theorem supplyOff_keeps (hb : Headblock) :
    keeps [.nodes, .traffic, .awaitingOff, .trip, .notices] s (supplyOff hb s) :=
  (updateBus_keeps s _ _).then (dropAwaiting_keeps _ _)

theorem endTransfer_keeps (hb : Headblock) (status : TransferEnd) : keeps [.traffic, .notices] s (endTransfer hb status s) := by
  unfold endTransfer
  split
  · exact keeps.refl _ s
  · exact (updateBus_traffic s hb _ fun _ => rfl).then (post_keeps _ _)

theorem settingOnAttach_keeps (hb : Headblock) (left entered : AttachState) :
    keeps [.setting] s (settingOnAttach hb left entered s) := by
  unfold settingOnAttach
  split
  · split
    · exact keeps.refl _ s
    · exact updateSetting_keeps s _ _
  · split
    · exact updateSetting_keeps s _ _
    · exact keeps.refl _ s

theorem choose_keeps : keeps [.bypass] s (choose s) := by
  intro f hf; cases f <;> simp_all [Field.same, State.node, choose]

theorem composeOnAttach_keeps (hb : Headblock) (departed : Bool) :
    keeps [.setting, .memberList, .order, .pairs, .notices] s (composeOnAttach hb departed s) := by
  unfold composeOnAttach
  split
  · exact (compose_keeps s).then (abortSetOp_keeps _ _ _)
  · exact (compose_keeps s).mono (by decide)

/-- R110: whichever of the two is taken first, they reach no further than the two of them. -/
theorem composeAndLeave_keeps (hb : Headblock) :
    keeps [.bypass, .setting, .memberList, .order, .pairs, .notices] s (composeAndLeave hb s) := by
  have first := fun v => (composeOnAttach_keeps v hb true).then (leaveBypass_keeps _ .attach)
    (l := [.bypass, .setting, .memberList, .order, .pairs, .notices])
  unfold composeAndLeave
  split
  · split
    · exact ((choose_keeps s).then (leaveBypass_keeps _ _) (l := [.bypass, .order, .pairs, .notices])).then
        (composeOnAttach_keeps _ _ _)
    · exact (choose_keeps s).then (first _)
  · exact first s

theorem handOnAttach_keeps (hb : Headblock) (left : AttachState) :
    keeps [.notices, .traffic, .setting, .members, .memberList, .order, .pairs, .bypass] s (handOnAttach hb left s) := by
  have h := ((settingOnAttach_keeps s hb left (s.attachState hb)).mono
    (b := [.notices, .traffic, .setting, .members, .memberList, .order, .pairs, .bypass]) (by decide)).trans
      ((rederive_keeps _ fun m => m.hb == hb).mono (by decide))
  have step1 : ∀ (b d : Bool) (v : State), keeps [.notices, .traffic, .setting, .members, .memberList, .order, .pairs, .bypass]
      v (if b then composeAndLeave hb v else composeOnAttach hb d v) := by
    intro b d v; split
    · exact (composeAndLeave_keeps v hb).mono (by decide)
    · exact (composeOnAttach_keeps v hb d).mono (by decide)
  have step2 : ∀ (b : Bool) (v : State), keeps [.notices, .traffic, .setting, .members, .memberList, .order, .pairs, .bypass]
      v (if b then v else endTransfer hb .aborted v) := by
    intro b v; split
    · exact keeps.refl _ v
    · exact (endTransfer_keeps v _ _).mono (by decide)
  exact (h.trans (step1 _ _ _)).trans (step2 _ _)

theorem changeAttach_keeps (hb : Headblock) (f : Attach → Attach) (further : List NoticeBody) :
    keeps attachReach s (changeAttach hb f further s) := by
  have h : keeps attachReach s (postAll ((updateAttach hb f s).attachNotice hb (some (s.attachState hb)) :: further)
      (updateAttach hb f s)) := (updateAttach_keeps s _ _).then (postAll_keeps _ _)
  have off : ∀ (b : Bool) (v : State), keeps attachReach v (if b then supplyOff hb v else v) := by
    intro b v; split
    · exact (supplyOff_keeps v _).mono (by decide)
    · exact keeps.refl _ v
  exact (h.trans (off _ _)).trans ((handOnAttach_keeps _ _ _).mono (by decide))

theorem fillTable_keeps (hb : Headblock) (d : Descriptor) (c : Census) :
    keeps [.nodes, .traffic, .pairs] s (fillTable hb d c s) :=
  (updateBus_keeps s _ _).then (clearMismatches_keeps _ _)

theorem refreshTable_keeps (hb : Headblock) (d : Descriptor) (c : Census) :
    keeps [.nodes, .traffic, .pairs] s (refreshTable hb d c s) :=
  (updateBus_keeps s _ _).then (clearMismatches_keeps _ _)

theorem endCensus_keeps (hb : Headblock) (c : Census) (v : Except AttachCause Descriptor) :
    keeps attachReach s (endCensus hb c v s) := by
  unfold endCensus
  split
  · exact changeAttach_keeps s _ _ _
  · split
    · split
      · exact (refreshTable_keeps s _ _ _).then (changeAttach_keeps _ _ _ _)
      · refine keeps.then (a := [.nodes, .traffic, .pairs]) ?_ (changeAttach_keeps _ _ _ _)
        exact (fillTable_keeps s _ _ _).then (clearLatches_keeps _ _)
    · exact (fillTable_keeps s _ _ _).then (changeAttach_keeps _ _ _ _)

theorem censusOutcome_keeps (hb : Headblock) (c : Census) (outcome : FrameOutcome) :
    keeps attachReach s (censusOutcome hb c outcome s) := by
  have on : ∀ c, keeps attachReach s (censusOn hb c s) := by
    intro c
    unfold censusOn
    split
    · exact (updateAttach_keeps s _ _).mono (by decide)
    · exact endCensus_keeps s _ _ _
  unfold censusOutcome
  split
  · exact on _
  · exact endCensus_keeps s _ _ _
  all_goals
    split
    · exact (updateAttach_keeps s _ _).mono (by decide)
    · exact on _

theorem identifyOutcome_keeps (hb : Headblock) (outcome : FrameOutcome) :
    keeps attachReach s (identifyOutcome hb outcome s) := by
  unfold identifyOutcome
  split
  · exact censusOutcome_keeps s _ _ _
  · exact censusOutcome_keeps s _ _ _
  · split
    · exact changeAttach_keeps s _ _ _
    · exact keeps.refl _ s
  · exact keeps.refl _ s

theorem checkLinkDown_keeps (hb : Headblock) : keeps attachReach s (checkLinkDown hb s) := by
  unfold checkLinkDown
  split
  · exact keeps.refl _ s
  · split
    · exact (updateBus_keeps s _ _).then (changeAttach_keeps _ _ _ _)
    · exact keeps.refl _ s

/-! ## Outcomes of frames -/

theorem abortTransferOf_keeps (hb : Headblock) (n : NodeIx) : keeps [.traffic, .notices] s (abortTransferOf hb n s) := by
  unfold abortTransferOf
  split
  · exact endTransfer_keeps s _ _
  · exact keeps.refl _ s

theorem confirmLost_keeps (hb : Headblock) (n : NodeIx) : keeps [.awaitingOff, .trip, .notices] s (confirmLost hb n s) :=
  dropAwaiting_keeps s _

theorem nodeLost_keeps (hb : Headblock) (n : NodeIx) : keeps attachReach s (nodeLost hb n s) := by
  have h := ((((confirmLost_keeps s hb n).mono (b := attachReach) (by decide)).trans
    ((rederive_keeps _ (nodeMembers hb n).contains).mono (by decide))).trans
    ((orderNodeLost_keeps _ hb n).mono (by decide))).trans ((settingNodeLost_keeps _ hb n).mono (by decide))
  exact (h.trans ((abortTransferOf_keeps _ hb n).mono (by decide))).trans (checkLinkDown_keeps _ hb)

theorem linkChanged_keeps (hb : Headblock) (n : NodeIx) (old : NodeLink) : keeps attachReach s (linkChanged hb n old s) := by
  unfold linkChanged
  split
  · exact keeps.refl _ s
  · split
    · exact keeps.refl _ s
    · split
      · exact nodeLost_keeps s _ _
      · exact (rederive_keeps s _).mono (by decide)

/-- A good exchange reply in the node's record reaches the coils, the members, the order, the setting unit and, through
the confirming of coils off, the trip unit (R136). -/
theorem goodExchange_keeps (hb : Headblock) (n : NodeIx) (input : Byte) (old : State) :
    keeps [.pairs, .notices, .awaitingOff, .trip, .members, .order, .setting, .memberList] s
      (goodExchange hb n input old s) := by
  unfold goodExchange
  exact ((((coilsOnReply_keeps s hb n).mono (by decide)).trans ((rederive_keeps _ _).mono (by decide))).trans
    ((orderOnReply_keeps _ _ _ _ _).mono (by decide))).trans ((settingOnReply_keeps _ _ _ _ _).mono (by decide))

theorem setTransfer_keeps (hb : Headblock) (t : Transfer) : keeps [.traffic] s (setTransfer hb t s) :=
  updateBus_traffic s hb _ fun _ => rfl

theorem transferOutcome_keeps (hb : Headblock) (outcome : FrameOutcome) :
    keeps [.traffic, .notices] s (transferOutcome hb outcome s) := by
  unfold transferOutcome
  split
  · exact keeps.refl _ s
  · split
    · simp only
      split
      · exact (setTransfer_keeps s _ _).then (endTransfer_keeps _ _ _)
      · split
        · exact (setTransfer_keeps s _ _).then (endTransfer_keeps _ _ _)
        · exact (setTransfer_keeps s _ _).mono (by decide)
    all_goals
      split
      · exact (setTransfer_keeps s _ _).mono (by decide)
      · exact endTransfer_keeps s _ _

theorem exchangeOutcome_keeps (hb : Headblock) (f : Flight) (image period : Byte) (outcome : FrameOutcome) :
    keeps attachReach s (exchangeOutcome hb f image period outcome s) := by
  unfold exchangeOutcome
  split
  · exact keeps.refl _ s
  · have h : ∀ bs g, keeps attachReach s (postAll bs (updateBus hb g s)) := fun bs g =>
      (updateBus_keeps s hb g).then (postAll_keeps _ bs)
    simp only
    split
    · exact (h _ _).trans ((goodExchange_keeps _ _ _ _ _).mono (by decide))
    all_goals exact (h _ _).trans (linkChanged_keeps _ _ _ _)

theorem diagOutcome_keeps (hb : Headblock) (f : Flight) (outcome : FrameOutcome) :
    keeps attachReach s (diagOutcome hb f outcome s) := by
  unfold diagOutcome
  split
  · exact keeps.refl _ s
  · refine keeps.trans ?_ (linkChanged_keeps _ _ _ _)
    refine keeps.trans ?_ ((postAll_keeps _ _).mono (by decide))
    have h1 : ∀ (b : Bool) (v : State), keeps attachReach v (if b then v else transferOutcome hb outcome v) := by
      intro b v; split
      · exact keeps.refl _ v
      · exact (transferOutcome_keeps v _ _).mono (by decide)
    have h2 : ∀ (p : Prop) [Decidable p] (v : State), keeps attachReach v (if p then abortTransferOf hb f.node v else v) := by
      intro p _ v; split
      · exact (abortTransferOf_keeps v _ _).mono (by decide)
      · exact keeps.refl _ v
    exact (((updateBus_keeps s _ _).mono (by decide)).trans (h1 _ _)).trans (h2 _ _)

/-- The outcome of any frame reaches no further than an attachment change. -/
theorem takeOutcome_keeps (hb : Headblock) (f : Flight) (outcome : FrameOutcome) :
    keeps attachReach s (takeOutcome hb f outcome s) := by
  unfold takeOutcome
  refine ((updateBus_traffic s hb (fun b => { b with flight := none }) fun _ => rfl).mono (b := attachReach)
    (by decide)).trans ?_
  simp only
  split
  · exact keeps.refl _ _
  · split
    · exact exchangeOutcome_keeps _ _ _ _ _ _
    · exact identifyOutcome_keeps _ _ _
    · exact diagOutcome_keeps _ _ _ _

/-! ## The trip unit -/

theorem enterHolding_keeps (cause : HoldCause) (hold : Option HoldRec) :
    keeps [.trip, .notices] s (enterHolding cause hold s) :=
  (setTrip_keeps s _).then (post_keeps _ _)

theorem reportIfEmpty_keeps : keeps [.trip, .notices] s (reportIfEmpty s) := by
  unfold reportIfEmpty
  split
  · exact reportConfirmedOff_keeps s
  · exact keeps.refl _ s

theorem tripOrder_keeps : keeps [.order, .pairs, .notices] s (tripOrder s) := by
  unfold tripOrder
  split
  · exact (endToIdle_keeps s _ _ _).mono (by decide)
  · exact ((letGo_keeps s _).then (setOrder_keeps _ _) (l := [.order, .pairs])).then (post_keeps _ _)
  all_goals exact keeps.refl _ s

/-- What a trip edge may change (R79). -/
theorem takeTrip_keeps : keeps [.trip, .pairs, .awaitingOff, .order, .setting, .bypass, .memberList, .groupState, .notices]
    s (takeTrip s) := by
  have h := ((((claimForceOff_keeps s).mono
    (b := [.trip, .pairs, .awaitingOff, .order, .setting, .bypass, .memberList, .groupState, .notices]) (by decide)).trans
    ((enterHolding_keeps _ .trip s.holdAtTrip).mono (by decide))).trans ((tripOrder_keeps _).mono (by decide))).trans
    ((abortSetOp_keeps _ .a .trip).mono (by decide))
  have k := ((h.trans ((abortSetOp_keeps _ .b .trip).mono (by decide))).trans
    ((leaveBypass_keeps _ .trip).mono (by decide))).trans ((evalGroup_keeps _).mono (by decide))
  exact (k.trans ((postGroup_keeps _ s).mono (by decide))).trans ((reportIfEmpty_keeps _).mono (by decide))

theorem retrip_keeps : keeps [.trip, .pairs, .awaitingOff, .notices] s (retrip s) :=
  (((claimForceOff_keeps s).mono (by decide)).trans ((enterHolding_keeps _ _ _).mono (by decide))).trans
    ((reportIfEmpty_keeps _).mono (by decide))

end

end Sys2Proof.Machine
end

