-- ==== Sys2Proof/WellFormed.lean ====
section
/-! DEFINITION. Which commands the outside world can send: the checks a command's operands meet. -/

namespace Sys2Proof

/-- R162: a request carries a TAG of 1 to 255. -/
def Instr.tagOk (i : Instr) : Bool := i.tag? != some 0

/-- R165, Table 10-6: an UNKNOWN_KIND command carries no request kind, and its body fits a frame (R162). -/
def Instr.kindOk : Instr → Bool
  | .unknownKind _ kind body => !isRequestKind kind && decide (body.length ≤ 250)
  | _ => true

/-- R135: a reply that has begun and ended holds at least one byte; silence is REPLY_WINDOW_END. -/
def Instr.replyOk : Instr → Bool
  | .exchReply _ bytes _ | .idReply _ bytes _ | .diagReply _ bytes _ => !bytes.isEmpty
  | _ => true

/-- A command the outside world can send. `exec` gives every command a next state, well formed or not. -/
def Instr.wellFormed (i : Instr) : Bool := i.tagOk && i.kindOk && i.replyOk

end Sys2Proof
end

