-- ==== Sys2Proof/Tests/Slice0.lean ====
section
/-! SUPPORT. The model's own tests: the checks of WellFormed, one or two small steps a command, and for every statement
with hypotheses a concrete state and operands that meet them. -/

namespace Sys2Proof.Tests

-- One theorem at a time: proofs that wait for one another hold a thread each.
set_option Elab.async false

open Sys2Proof.Machine

/-! ## States -/

/-- What a command leaves, looked at by `f`. -/
def after (r : Result) (f : State → Bool) : Bool :=
  match r with
  | .next t => f t
  | .fault _ | .refused _ => false

/-- Dead times 100 ms, turn timeout 3000 ms, settle limit 3, set timeout 30 s. -/
def profile : Profile := ⟨none, 100, 100, 100, 3000, 3, 30⟩

/-- A twin capable spreader of all three lengths with four corner nodes and a body node. -/
def descriptor : Descriptor :=
  ⟨7, 2, 1, true, true, true, true, [(0, .corner), (1, .corner), (2, .corner), (3, .corner), (4, .body)]⟩

/-- A record after a good exchange reply with the input image given, every coil off. -/
def online (r : NodeRec) (input : Byte) : NodeRec :=
  { r with input := some input, echo := some 0, reference := some 0, signalsKnown := true }

/-- The node of an address in service, its coils off. -/
def node (corner body : Byte) (n : NodeIx) : Option NodeRec :=
  if n.val < 4 then some (online (freshNode .corner 0) corner)
  else if n = bodyNode then some (online (freshNode .body 0) body)
  else none

/-- Spreader A ARMED at 20 ft SINGLE with the images given, the trip unit CLEAR, nothing on the line, no notice waiting. -/
def stand (corner body : Byte) : State :=
  let s : State :=
    { State.reset with
      link := { State.reset.link with tx := .idle }
      notices := ⟨[], false⟩
      bus := ⟨{ Bus.reset with nodes := Vector.ofFn (node corner body) }, .reset⟩
      attach := ⟨{ Attach.reset true with state := .armed, descriptor := some descriptor, profile := some profile
                                          plug := true, plugTimer := none }, .reset false⟩
      setting := ⟨⟨some ⟨.l20, .single⟩, 0, none⟩, .reset⟩
      trip := ⟨.clear, false, none, true, true, none⟩ }
  evalGroup (compose (rederiveHead .a s))

/-- Unlocked and lifted; the body shows 20 ft, gear up. -/
def open20 : State := stand 0x24 0x11

/-- Unlocked and landed. -/
def landed20 : State := stand 0x2D 0x11

/-- Locked and landed. -/
def locked20 : State := stand 0x1B 0x11

/-- Member A1. -/
def a1 : Member := ⟨.a, 0⟩

/-- Member A5, on the other half of A1's node. -/
def a5 : Member := ⟨.a, 4⟩

def lockHead : OrderHead := ⟨.lock, .link, true⟩

/-- A LOCK order turns A1 to A4 with the progress given. -/
def turning (p : Progress) : State :=
  let s : State := { landed20 with
    order := .active .turning lockHead (landed20.group.members.map fun m => ⟨m, p, false⟩) 3000 }
  updatePairs (fun q r => if q = a1.pair then { r with command := .on .first, offMark := true } else r) s

/-- A LOCK order of A1 alone, settled. -/
def allSettled : State :=
  { landed20 with order := .active .settling lockHead [⟨a1, .settled, false⟩] 3000 }

/-- A proposed LOCK order. -/
def proposed : State := { landed20 with order := .proposed ⟨.lock, .link, false⟩ 5000 }

/-- The hold after a trip edge that suspended an order. -/
def held : State :=
  { landed20 with
    order := .suspended lockHead
    trip := ⟨.held .trip, false, some ⟨.lock, .link, landed20.group.members, true, false⟩, true, true, none⟩ }

/-- An order in FAULT_HELD. -/
def faultHeld : State := { landed20 with order := .faultHeld lockHead [⟨a1, .failed, false⟩] .turnTimeout }

/-- The reason of an order in FAULT_HELD. -/
def heldReason (s : State) : Option EndReason :=
  match s.order with
  | .faultHeld _ _ reason => some reason
  | _ => none

/-- A set operation of spreader A drives its telescope out to 40 ft. -/
def telescoping : State :=
  let s : State := { open20 with
    setting := ⟨⟨none, 0, some ⟨⟨.l40, .single⟩, .telescoping .extend, .driving, 30000⟩⟩, .reset⟩ }
  updatePairs (fun q r => if q = telescope .a then { r with command := .on .first, offMark := true } else r) s

/-- The state with A's attachment state replaced. -/
def attached (a : AttachState) (s : State) : State := updateAttach .a (fun r => { r with state := a }) s

/-- A frame of A to the node of address 1 whose reply window is open. -/
def inWindow (n : NodeIx) (kind : FrameKind) (s : State) : State :=
  updateBus .a (fun b => { b with flight := some ⟨n, kind, .window, 0, false, false, false, false⟩ }) s

/-- The same after one hold-off marker. -/
def extended (n : NodeIx) (kind : FrameKind) (s : State) : State :=
  updateBus .a (fun b => { b with flight := b.flight.map fun f => { f with phase := .extended } }) (inWindow n kind s)

/-- A reply stands in hand on the line, its request and one more in the queue. -/
def replying : State :=
  { State.reset with link := { State.reset.link with
      tx := .reply, reply := some ⟨5, 0x01, .ok, []⟩, queue := [⟨5, 0x01, []⟩, ⟨6, 0x32, []⟩] } }

/-! ## WellFormed -/

theorem test_wellFormed_request : (Instr.getStatus 1).wellFormed = true := by decide
theorem test_tagOk_refuses : (Instr.getStatus 0).tagOk = false ∧ (Instr.getStatus 0).wellFormed = false := by decide
theorem test_kindOk_refuses : (Instr.unknownKind 1 0x02 []).kindOk = false ∧
    (Instr.unknownKind 1 0x02 []).wellFormed = false := by decide
theorem test_replyOk_refuses : (Instr.exchReply .a [] false).replyOk = false ∧
    (Instr.exchReply .a [] false).wellFormed = false := by decide

/-! ## Checks of frames -/

set_option maxRecDepth 10000 in
/-- The check values of "123456789" for the two polynomials (CRC-8 of R133, CRC-16 of R162). -/
theorem test_checks : crc8 [0x31, 0x32, 0x33, 0x34, 0x35, 0x36, 0x37, 0x38, 0x39] = 0xF4 ∧
    crc16 [0x31, 0x32, 0x33, 0x34, 0x35, 0x36, 0x37, 0x38, 0x39] = 0x29B1 := by decide

/-! ## One step -/

theorem test_step_runs_front : step { open20 with pending := [.setAuthority 1 0] } =
    exec (.setAuthority 1 0) { open20 with pending := [] } := rfl
theorem test_withFetchWord : State.reset.withFetchWord 8 3 = State.reset := rfl

theorem test_unknownKind : after (exec (.unknownKind 1 0x7F []) open20) (fun t =>
    t.link.reply == some ⟨1, 0x7F, .unknownKind, []⟩) = true := by decide
theorem test_identifyPart : after (exec (.identifyPart 1) open20) (fun t =>
    (t.link.reply.map fun r => r.values.take 4) == some [0x0D, 0x41, 0x03, 0x04]) = true := by decide
theorem test_getStatus : after (exec (.getStatus 1) open20) (fun t =>
    (t.link.reply.map fun r => r.values.take 6) == some [0, 0, 0, 0, 0, 2]) = true := by decide
theorem test_setTiming : after (exec (.setTiming 1 20 1 100 5000 30 200) open20) (fun t =>
    t.timing == ⟨20, .shared, 100, 5000, 30, 200⟩) = true := by decide
theorem test_setTiming_offStep : after (exec (.setTiming 1 22 1 100 5000 30 200) open20) (fun t =>
    t.timing == .default && (t.link.reply.map Reply.status) == some .range) = true := by decide
theorem test_restart : after (exec (.restart 1 1) open20) (fun t =>
    t.link.tx == .reply && (t.link.reply.map Reply.status) == some .ok) = true := by decide
theorem test_setTrolleyMode : after (exec (.setTrolleyMode 1 1) open20) (fun t =>
    t.mode == .soloB && t.group.members == [] && t.group.state == .notReady) = true := by decide
theorem test_setTrolleyMode_locked : after (exec (.setTrolleyMode 1 1) locked20) (fun t =>
    t.mode == .soloA && (t.link.reply.map Reply.status) == some .locked) = true := by decide
theorem test_readMembers : after (exec (.readMembers 1) locked20) (fun t =>
    (t.link.reply.map fun r => r.values.take 9) == some [0, 0, 0, 1, 0, 0, 0, 6, 0]) = true := by decide
theorem test_readGroup : after (exec (.readGroup 1) open20) (fun t =>
    (t.link.reply.map fun r => r.values.take 9) == some [0, 3, 2, 4, 0, 1, 2, 3, 0]) = true := by decide
theorem test_setAuthority : after (exec (.setAuthority 1 1) open20) (fun t => t.authority == .linkOnly) = true := by
  decide
theorem test_order : after (exec (.order 1 0) landed20) (fun t =>
    t.order == .proposed ⟨.lock, .link, false⟩ 5000) = true := by decide
theorem test_order_hold : after (exec (.order 1 0) held) (fun t =>
    (t.link.reply.map Reply.status) == some .hold) = true := by decide
theorem test_abandon : after (exec (.abandon 1) (turning .driving)) (fun t =>
    t.order.stage == .faultHeld && (t.pair a1.pair).command == .bothOff) = true := by decide
theorem test_clearFaults : after (exec (.clearFaults 1) faultHeld) (fun t => t.order == .idle) = true := by decide
theorem test_resume : after (exec (.resume 1) held) (fun t =>
    t.trip.state == .clear && t.order.stage == .turning) = true := by decide
theorem test_bypassEnter_key : after (exec (.bypassEnter 1) landed20) (fun t =>
    (t.link.reply.map Reply.status) == some .key) = true := by decide
theorem test_bypassExit : after (exec (.bypassExit 1) { landed20 with bypass := some .a }) (fun t =>
    t.bypass == none) = true := by decide
theorem test_setSpreader : after (exec (.setSpreader 1 0 40 0) open20) (fun t =>
    (t.setting.get .a).op == some ⟨⟨.l40, .single⟩, .telescoping .extend, .offWait, 30000⟩) = true := by decide
theorem test_loadProfile : after (exec (.loadProfile 1 0 0 0 10 20 30 200 1 2) open20) (fun t =>
    (t.attach.get .a).profile == some ⟨none, 10, 20, 30, 200, 1, 2⟩) = true := by decide
theorem test_arm : after (exec (.arm 1 0) (attached .identified open20)) (fun t =>
    t.attachState .a == .armed && (t.setting.get .a).setting == some ⟨.l20, .single⟩) = true := by decide
theorem test_disarm : after (exec (.disarm 1 0) open20) (fun t =>
    t.attachState .a == .identified && (t.setting.get .a).setting == none) = true := by decide
theorem test_release : after (exec (.release 1 0) open20) (fun t =>
    t.attachState .a == .releasing .off && t.node .a 0 == none) = true := by decide
theorem test_attach : after (exec (.attach 1 0) (attached .off open20)) (fun t =>
    t.attachState .a == .powering) = true := by decide
theorem test_readDescriptor : after (exec (.readDescriptor 1 0) open20) (fun t =>
    (t.link.reply.map fun r => r.values.take 4) == some [0, 0, 0, 7]) = true := by decide
theorem test_readNodes : after (exec (.readNodes 1 1) open20) (fun t =>
    (t.link.reply.map fun r => r.values.length) == some 111) = true := by decide
theorem test_readNodeDiag : after (exec (.readNodeDiag 1 0 1 248 8) open20) (fun t =>
    (t.bus.get .a).transfer == some ⟨0, 248, 8, 248, 1, 0, [], none⟩) = true := by decide
theorem test_watchSet : after (exec (.watchSet 1 102 2) open20) (fun t => t.watches == [⟨102, .both⟩]) = true := by decide
theorem test_watchClear : after (exec (.watchClear 1 255) { open20 with watches := [⟨3, .rise⟩] }) (fun t =>
    t.watches == []) = true := by decide
theorem test_watchList : after (exec (.watchList 1) { open20 with watches := [⟨3, .rise⟩] }) (fun t =>
    (t.link.reply.map Reply.values) == some [1, 3, 0]) = true := by decide
theorem test_replySent : after (exec .replySent replying) (fun t =>
    (t.link.reply.map Reply.kind) == some 0x32 && t.link.queue.length == 1) = true := by decide
theorem test_noticeSent : after (exec .noticeSent State.reset) (fun t => t.notices.queue.length == 4) = true := by decide
set_option maxRecDepth 10000 in
theorem test_linkFrame : after (exec (.linkFrameReceived ((crc16 [2, 1, 0x32]).setWidth 8))
    { open20 with link := { open20.link with rx := .receiving 2 [1, 0x32, (crc16 [2, 1, 0x32] >>> 8).setWidth 8] } })
    (fun t => (t.link.reply.map Reply.kind) == some 0x32) = true := by decide
theorem test_linkByte : after (exec (.linkByteReceived 0xC3) open20) (fun t => t.link.rx == .length) = true := by decide
theorem test_linkByteGap : after (exec .linkByteGap { open20 with link := { open20.link with rx := .length } })
    (fun t => t.link.rx == .hunting && t.notices.queue.length != 0) = true := by decide
theorem test_powerOn : after (exec .powerOn (turning .driving)) (fun t =>
    t.order == .idle && t.trip.state == .held .start && t.attachState .a == .empty) = true := by decide
theorem test_tripChainRaw : after (exec (.tripChainRawChange false) open20) (fun t =>
    t.trip.chainTimer == some 5) = true := by decide
theorem test_tripEdge : after (exec .tripEdge
    { turning .driving with trip := ⟨.clear, false, none, false, true, some 5⟩ }) (fun t =>
    t.order == .suspended lockHead && t.trip.state == .held .trip && (t.pair a1.pair).command == .bothOff) = true := by
  decide
theorem test_tripChainRearm : after (exec .tripChainRearm
    { held with trip := { held.trip with chainClosed := false, chainTimer := some 200 } }) (fun t =>
    t.trip.chainClosed && t.time == 200) = true := by decide
theorem test_plugRaw : after (exec (.plugRawChange .b true) open20) (fun t =>
    (t.attach.get .b).plugTimer == some 100) = true := by decide
theorem test_plugInsertion : after (exec (.plugInsertion .b)
    (updateAttach .b (fun a => { a with plugRaw := true, plugTimer := some 100 }) open20)) (fun t =>
    t.attachState .b == .powering && (t.attach.get .b).delayEnd == some 900) = true := by decide
theorem test_plugRemoval : after (exec (.plugRemoval .a)
    (updateAttach .a (fun a => { a with plugRaw := false, plugTimer := some 100 }) open20)) (fun t =>
    t.attachState .a == .releasing .empty && t.group.members == []) = true := by decide
theorem test_powerUpDelayEnd : after (exec (.powerUpDelayEnd .a)
    (updateAttach .a (fun a => { a with state := .powering, delayEnd := some 800 }) State.reset)) (fun t =>
    t.attachState .a == .census && ((t.bus.get .a).flight.map Flight.kind) == some .identify) = true := by decide
theorem test_powerDownDelayEnd : after (exec (.powerDownDelayEnd .a)
    (updateAttach .a (fun a => { a with state := .releasing .off, delayEnd := some 500 }) State.reset)) (fun t =>
    t.attachState .a == .off) = true := by decide
theorem test_masterFrameEnd : after (exec (.masterFrameEnd .a)
    (updateBus .a (fun b => { b with flight := some (newFlight 0 .identify) }) open20)) (fun t =>
    ((t.bus.get .a).flight.map Flight.phase) == some .window) = true := by decide
theorem test_holdOff : after (exec (.holdOff .a false) (inWindow 0 .identify open20)) (fun t =>
    ((t.bus.get .a).flight.map Flight.phase) == some .extended) = true := by decide
set_option maxRecDepth 10000 in
theorem test_exchReply : after (exec
    (.exchReply .a [0x21, 1, 0x1B, 0, 0, crc8 [0x21, 1, 0x1B, 0, 0]] false) (inWindow 0 (.exchange 0 8) open20))
    (fun t => t.member a1 == ⟨.on, .locked⟩ && t.group.state == .mixed) = true := by decide
set_option maxRecDepth 10000 in
theorem test_idReply : after (exec (.idReply .a [0x22, 1, 1, crc8 [0x22, 1, 1]] false)
    (updateAttach .a (fun a => { a with state := .census, census := some .start }) (inWindow 0 .identify State.reset)))
    (fun t => ((t.attach.get .a).census.map Census.node) == some 1) = true := by decide
set_option maxRecDepth 10000 in
theorem test_diagReply : after (exec (.diagReply .a [0x23, 1, 0, 0, crc8 [0x23, 1, 0, 0]] false)
    (updateBus .a (fun b => { b with transfer := some ⟨0, 0, 2, 0, 1, 0, [], none⟩ })
      (inWindow 0 (.diagRead 0) open20))) (fun t => (t.bus.get .a).transfer == none) = true := by decide
theorem test_replyWindowEnd : after (exec (.replyWindowEnd .a false) (inWindow 0 (.exchange 0 8) open20)) (fun t =>
    ((t.node .a 0).map NodeRec.misses) == some 1) = true := by decide
theorem test_replyStall : after (exec (.replyStall .a true) (inWindow 0 (.exchange 0 8) open20)) (fun t =>
    (t.notices.queue.head?.map Notice.body) == some (.nodeState .a 0 .corner .online 1 true false false)) = true := by decide
theorem test_nodeDue : after (exec (.nodeDue .a 0)
    (updateBus .a (Bus.updateNode 0 fun r => { r with lastBegun := some 0 }) open20)) (fun t => t.time == 40) = true := by
  decide
theorem test_probeDue : after (exec (.probeDue .a)
    (attached (.linkDown .armed) (updateBus .a (fun b => { b with lastProbe := some 0 }) open20))) (fun t =>
    (t.bus.get .a).lastProbe == some 40) = true := by decide
theorem test_lastOnExpiry : after (exec (.lastOnExpiry a1.pair .first)
    (updatePairs (fun _ r => { r with lastOnFirst := some 0 }) open20)) (fun t =>
    t.time == 500 && (t.pair a1.pair).lastOnFirst == none) = true := by decide
/-- Both pairs of A's first node await confirmation; the node is LOST, their times are 260 ms and 310 ms. -/
def lostAwaited : State :=
  updateBus .a (Bus.updateNode 0 fun r => { r with link := .lost, goodFrame := some ⟨100, 40⟩, onFrameHigh := some ⟨150, 40⟩ })
    { held with awaitingOff := [a1.pair, a5.pair], trip := { held.trip with state := .holding .trip } }
theorem test_lostNodeOffTime : after (exec (.lostNodeOffTime .a 0) lostAwaited) (fun t =>
    t.time == 260 && t.awaitingOff == [a5.pair] && t.trip.state == .holding .trip &&
      after (exec (.lostNodeOffTime .a 0) t) fun u =>
        u.time == 310 && u.awaitingOff == [] && u.trip.state == .held .trip) = true := by decide
theorem test_memberDeadTimeEnd : after (exec (.memberDeadTimeEnd a1) (turning .deadWait)) (fun t =>
    (t.orderMember? a1).map OrderMember.progress == some .driving) = true := by decide
theorem test_confirmDeadline : after (exec .confirmDeadline proposed) (fun t =>
    t.time == 5000 && t.order == .idle) = true := by decide
theorem test_turnDeadline : after (exec .turnDeadline (turning .driving)) (fun t =>
    t.time == 3000 && t.order.stage == .faultHeld) = true := by decide
theorem test_stepDeadTimeEnd : after (exec (.stepDeadTimeEnd .a)
    (updateSetting .a (fun u => { u with op := u.op.map fun op => { op with phase := .deadWait } }) telescoping)) (fun t =>
    ((t.setting.get .a).op.map SetOp.phase) == some .driving) = true := by decide
theorem test_setDeadline : after (exec (.setDeadline .a) telescoping) (fun t =>
    t.time == 30000 && (t.setting.get .a).op == none && (t.pair (telescope .a)).command == .bothOff) = true := by decide
theorem test_cabRawChange : after (exec (.cabRawChange .gp1 true) open20) (fun t =>
    (t.cabIn .gp1).timer == some 30) = true := by decide
theorem test_cabDebounceEnd : after (exec (.cabDebounceEnd .lockPb)
    (updateCab .lockPb (fun _ => ⟨true, some false, some 30⟩) { landed20 with authority := .cabOnly })) (fun t =>
    t.order.stage == .turning) = true := by decide
/-- The two presses of a LOCK and its CONFIRM end their debounce in one millisecond. -/
def bothPressed : State :=
  updateCab .confirmPb (fun _ => ⟨true, some false, some 30⟩)
    (updateCab .lockPb (fun _ => ⟨true, some false, some 30⟩) proposed)
theorem test_press_after_confirm : after (exec (.cabDebounceEnd .confirmPb) bothPressed) (fun t =>
    t.confirmed == some (.lock, 30) && t.order.stage == .turning &&
      after (exec (.cabDebounceEnd .lockPb) t) fun u =>
        u.notices.queue.any fun n => n.body == .cabRefused .lock .wrongButton .turning) = true := by decide
/-- The test spreader has left ARMED with an order running over it. -/
def departed : State := { attached (.releasing .empty) (turning .driving) with bypass := some .a }
theorem test_leave_first (h : Config.leaveFirst 0 = true) :
    heldReason (composeAndLeave .a departed) = some .bypassLeft := by
  rw [show composeAndLeave .a departed = composeOnAttach .a true (leaveBypass .attach (choose departed)) from by
    rw [composeAndLeave, if_pos (by decide), if_pos (show Config.leaveFirst departed.choices = true from h)]]
  decide
theorem test_compose_first (h : ¬Config.leaveFirst 0 = true) :
    heldReason (composeAndLeave .a departed) = some .spreaderLost := by
  rw [show composeAndLeave .a departed = leaveBypass .attach (composeOnAttach .a true (choose departed)) from by
    rw [composeAndLeave, if_pos (by decide), if_neg (show ¬Config.leaveFirst departed.choices = true from h)]]
  decide
theorem test_flashClock : after (exec .flashClock open20) (fun t => t.flash == ⟨false, 1000⟩) = true := by decide

/-! ## Hypotheses met: the step, the invariants, the end of an action -/

theorem witness_StepTakesFront_idle : State.reset.pending = [] := rfl
theorem witness_command_completes : exec .flashClock open20 = .next (finish open20 (flashClock open20)) := rfl

/-- A command waits in the state. -/
def waiting (c : Instr) (s : State) : State := { s with pending := [c] }

theorem witness_StepKeepsPermitsAgree : PermitsAgree (waiting (.getStatus 1) held) ∧
    ∃ t, step (waiting (.getStatus 1) held) = .next t :=
  ⟨⟨⟨fun h => absurd h (by decide), fun h => absurd h.1 (by decide)⟩,
    ⟨fun h => absurd h (by decide), fun h => absurd h.1 (by decide)⟩⟩, _, rfl⟩
theorem witness_StepKeepsHoldSafe : HoldSafe (waiting (.resume 1) held) ∧ held.trip.state ≠ .clear ∧
    ∃ t, step (waiting (.resume 1) held) = .next t := by
  refine ⟨fun _ => ⟨?_, by decide, fun hb => by cases hb <;> decide⟩, by decide, _, rfl⟩
  rintro ⟨hb, i⟩
  cases hb <;> revert i <;> decide
theorem witness_StepKeepsCoilsHeld : CoilsHeld (waiting .turnDeadline (turning .driving)) ∧
    HoldSafe (waiting .turnDeadline (turning .driving)) ∧ ((turning .driving).pair a1.pair).command ≠ .bothOff ∧
    ∃ t, step (waiting .turnDeadline (turning .driving)) = .next t := by
  refine ⟨?_, fun h => absurd rfl h, by decide, _, rfl⟩
  rintro ⟨hb, i⟩
  cases hb <;> revert i <;> decide
theorem witness_StepKeepsAwaitsInHolding :
    let s : State := { held with awaitingOff := [a1.pair], trip := { held.trip with state := .holding .trip } }
    AwaitsInHolding (waiting (.resume 1) s) ∧ ∃ t, step (waiting (.resume 1) s) = .next t :=
  ⟨⟨fun _ => by decide, fun _ => ⟨_, rfl⟩⟩, _, rfl⟩
theorem witness_StepKeepsHoldMatchesOrder : HoldMatchesOrder (waiting (.abandon 1) held) ∧
    ∃ t, step (waiting (.abandon 1) held) = .next t := ⟨⟨by decide, by decide⟩, _, rfl⟩
theorem witness_StepKeepsMembersDerived : MembersDerived (waiting (.disarm 1 0) open20) ∧
    ∃ t, step (waiting (.disarm 1 0) open20) = .next t := by
  refine ⟨?_, _, rfl⟩
  rintro ⟨hb, k⟩
  cases hb <;> revert k <;> decide
theorem witness_StepKeepsWithinCapacity : WithinCapacity (waiting (.watchSet 1 4 0) open20) ∧
    ∃ t, step (waiting (.watchSet 1 4 0) open20) = .next t :=
  ⟨⟨by decide, by decide, by decide, by decide⟩, _, rfl⟩

theorem witness_NoticesAndSignals :
    let t := finish open20 open20
    t.signalValue 11 = some false ∧ t.signalValue 0 = none := by decide
theorem witness_OutputImages :
    let t := finish (turning .driving) (turning .driving)
    t.node .a 0 ≠ none ∧ ((turning .driving).node .a 0).map NodeRec.output ≠ (t.node .a 0).map NodeRec.output := by
  decide

/-- A command after which nothing but the flash clock has changed. -/
def afterTick (s : State) (f : State → Bool) : Bool := after (exec .flashClock s) f

theorem witness_group_notReady : afterTick State.reset (fun t => t.group.members == []) = true := by decide
theorem witness_group_fault : afterTick (stand 0x06 0x11) (fun t =>
    t.group.members != [] && t.group.members.any fun m => (t.member m).position == .conflict) = true := by decide
theorem witness_group_allLocked : afterTick locked20 (fun t =>
    t.group.members != [] && t.group.members.all fun m =>
      (t.member m).position == .locked && (t.member m).landed == .on && !(t.pair m.pair).fault) = true := by decide
theorem witness_group_allUnlocked : afterTick open20 (fun t =>
    t.group.members != [] && t.group.members.all fun m =>
      (t.member m).position == .unlocked && (t.member m).landed == .off && !(t.pair m.pair).fault) = true := by decide
theorem witness_group_mixed : afterTick (stand 0x00 0x11) (fun t =>
    t.group.members != [] && t.group.members.all fun m =>
      (t.member m).position == .between && !(t.pair m.pair).fault) = true := by decide
/-- A1 alone is landed. -/
def oneLanded : State := updateMembers (fun m r => if m = a1 then { r with landed := .on } else r) open20
theorem witness_summary_some : afterTick oneLanded (fun t =>
    (t.group.members.any fun m => (t.member m).landed == .on) &&
      t.group.members.any fun m => (t.member m).landed != .on) = true := by decide
theorem witness_lamps_flashing : afterTick { turning .driving with trip := ⟨.held .trip, true, none, true, true, none⟩ }
    (fun t => t.runsOver .lock .a && t.order.stage == .turning && t.trip.state != .clear && t.trip.pending) = true := by
  decide
theorem witness_lamps_proposed : afterTick proposed (fun t => t.order.stage == .proposed) = true := by decide
theorem witness_lamps_fault : afterTick faultHeld (fun t => t.order.stage == .faultHeld) = true := by decide
theorem witness_TransmitRule :
    State.reset.link.tx = .notice ∧ open20.link.tx ≠ .notice ∧ open20.link.tx = .idle ∧ open20.link.reply = none ∧
      open20.notices.queue = [] ∧ (post (.holdState .clear false true none) open20).notices.queue ≠ [] ∧
      (putReply ⟨1, 1, .ok, []⟩ open20).link.reply ≠ none := by decide

/-! ## Hypotheses met: group, orders, coils -/

theorem witness_Composition_empty : ¬((State.reset.attach.get .a).state = .armed) ∧ State.reset.mode ≠ .soloB := by decide
theorem witness_Composition_listed :
    (∀ hb : Headblock, (match hb with | .a => open20.mode ≠ .soloB | .b => open20.mode ≠ .soloA) →
      (open20.attach.get hb).state = .armed ∧ (open20.setting.get hb).op = none ∧
        (open20.setting.get hb).setting ≠ none) ∧ (compose open20).group.members = open20.group.members :=
  ⟨fun hb => by cases hb <;> decide, by decide⟩
theorem witness_Composition_changed :
    let s := updateSetting .a (fun _ => ⟨none, 0, none⟩) (turning .driving)
    (compose s).group.members ≠ s.group.members ∧ s.order.stage = .turning := by decide
theorem witness_MemberValues :
    (State.reset.attach.get .a).state = .empty ∧ State.reset.node .a 0 = none ∧
      (open20.attach.get .a).state = .armed ∧
      (open20.node .a 0).map (fun r => (r.link, r.input)) = some (.online, some 0x24) := by decide
theorem witness_CheckedGate_fails :
    State.reset.checkFails none = some .notReady ∧ (⟨.lock, .link, false⟩ : OrderHead).turningBegun = false ∧
      open20.checkFails (some []) = some .spreaderLost ∧ lockHead.turningBegun = true ∧
      (stand 0x06 0x11).checkFails none = some .groupFault ∧ open20.checkFails none = some .notLanded := by decide
theorem witness_CheckedGate_passes : landed20.checkFails none = none ∧
    (∀ m ∈ locked20.group.members, (locked20.member m).position = .locked) ∧
    ¬(∀ m ∈ landed20.group.members, (landed20.member m).position = .locked) := by decide
theorem witness_MemberProgress : (landed20.attach.get a1.hb).profile = some profile ∧
    (turning .settled).order.stage = .turning ∧ (∀ om ∈ (turning .settled).order.activeMembers, om.progress = .settled) ∧
    ¬(∀ om ∈ (turning (.settling 0)).order.activeMembers, om.progress = .settled) := by decide
/-- `telescoping` in another phase, towards another target, at another step. -/
def setAt (target : Setting) (step : SetStep) (phase : Phase) : State :=
  updateSetting .a (fun u => { u with op := some ⟨target, step, phase, 30000⟩ }) telescoping
theorem witness_MemberProgress_phases :
    (∀ phase, ((setAt ⟨.l40, .single⟩ (.telescoping .extend) phase).setting.get .a).op.map SetOp.phase = some phase) ∧
    (∃ p ∈ [telescope .a], p.hb = .a ∧ 8 ≤ p.i.val) ∧ telescoping.echo (telescope .a) = .bothOff ∧
    (open20.setting.get .a).op = none ∧ (open20.setting.get .a).setting = some ⟨.l20, .single⟩ ∧
    (open20.attach.get .a).state = .armed ∧ (State.reset.setting.get .a).op = none ∧
    (State.reset.setting.get .a).setting = none := by
  refine ⟨fun phase => by cases phase <;> decide, ?_⟩
  decide
theorem witness_MemberProgress_nextStep :
    let at20 : Byte := 0x11
    let nowhere : Byte := 0x10
    posSensor at20 .l40 = false ∧ posSensor at20 .l20 = true ∧ (∀ l, l ≠ .l20 → posSensor at20 l = false) ∧
      (∀ l, posSensor nowhere l = false) ∧ Length.feet .l20 < Length.feet .l40 ∧
      (open20.attach.get .a).descriptor.any Descriptor.twin = true ∧ at20.getLsbD 3 = false := by
  refine ⟨by decide, by decide, ?_, ?_, by decide⟩ <;> intro l <;> cases l <;> decide
/-- A1's coils are off and marked, the order drives it. -/
def mayDrive : State := updatePairs (fun _ r => { r with command := .bothOff, offMark := true }) (turning .driving)
theorem witness_DriveClaim_taken : (mayDrive.attach.get .a).profile = some profile ∧ mayDrive.trip.state = .clear ∧
    (∃ om ∈ mayDrive.order.activeMembers, om.member.pair = a1.pair ∧ om.progress = .driving) ∧
    (mayDrive.pair a1.pair).command ≠ .on .second ∧ (mayDrive.pair a1.pair).offMark = true ∧
    (mayDrive.pair a1.pair).lastOn .second = none := by decide
theorem witness_DriveClaim_body : ∃ op, (telescoping.setting.get .a).op = some op ∧
    (telescope .a).i = (match op.step with | .telescoping _ => 8 | .gearUp | .gearDown => 9) := ⟨_, rfl, by decide⟩
theorem witness_DriveClaim_refused : ¬(held.trip.state = .clear) := by decide
theorem witness_AttachmentChange :
    AttachState.armed.supplyOn = true ∧ (AttachState.releasing .off).supplyOn = false ∧
      AttachState.identified.supplyOn = true ∧ AttachState.identified ≠ .armed ∧
      { open20 with bypass := some Headblock.a }.bypass = some .a := by decide
theorem witness_TripEdge_awaits : a1.pair ∉ (turning .driving).awaitingOffOf ∧
    a1.pair ∈ (inWindow 0 (.exchange 1 8) (turning .driving)).awaitingOffOf ∧
    (∀ time, time = 259 ∨ time = 260 →
      let lost := updatePairs (fun q r => if q = a1.pair then { r with command := .on .first } else r)
        (updateBus .a (Bus.updateNode 0 fun r => { r with reference := some 1 }) { lostAwaited with time := time })
      (decide (a1.pair ∈ lost.awaitingOffOf)) = decide (time = 259)) :=
  ⟨by decide, by decide, by rintro _ (rfl | rfl) <;> decide⟩
theorem witness_ArbiterChoice_busy : ((inWindow 0 .identify open20).bus.get .a).flight ≠ none := by decide
theorem witness_ArbiterChoice_census :
    let s := updateAttach .a (fun a => { a with state := .census, census := some Census.start }) State.reset
    (s.bus.get .a).flight = none ∧ (s.attach.get .a).census = some Census.start ∧ (s.attach.get .a).state = .census := by
  decide
theorem witness_ArbiterChoice_probe :
    let s := attached (.linkDown .armed) open20
    let later := updateBus .a (fun b => { b with lastProbe := some 0 }) s
    (s.bus.get .a).lastProbe = none ∧ (later.bus.get .a).lastProbe = some 0 ∧ ¬(0 + later.timing.period ≤ later.time) := by
  decide
theorem witness_ArbiterChoice_urgent :
    let s := updateBus .a (fun b => { b with urgent := [2, 0] }) open20
    (s.bus.get .a).flight = none ∧ (s.bus.get .a).urgent = 2 :: [0] ∧ (s.bus.get .a).node 2 ≠ none := by decide
/-- A diagnostic transfer of the node of address 1 stands. -/
def reading (s : State) : State :=
  updateBus .a (fun b => { b with transfer := some ⟨0, 0, 8, 0, 1, 0, [], none⟩ }) s
/-- No node is due. -/
def noneDue : State := updateBus .a (Bus.updateNodes fun _ r => r.map fun r => { r with lastBegun := some 0 }) open20
theorem witness_ArbiterChoice_shared :
    let s := { reading open20 with timing := { open20.timing with share := .shared } }
    ((s.bus.get .a).transfer.map Transfer.rowTwo) = some none ∧ s.nodeIsDue .a 0 = true ∧ (s.bus.get .a).urgent = [] := by
  decide
theorem witness_ArbiterChoice_due : open20.nodeIsDue .a 0 = true ∧ (reading open20).timing.share = .idleOnly := by decide
theorem witness_ArbiterChoice_last : (∀ n, noneDue.nodeIsDue .a n = false) ∧ ((reading noneDue).bus.get .a).transfer ≠ none ∧
    (noneDue.bus.get .a).transfer = none := by decide

/-! ## Hypotheses met: requests -/

theorem witness_request : Free open20 ∧ (1 : Byte) ≠ 0 := ⟨⟨rfl, rfl⟩, by decide⟩
theorem witness_Arrival : requestOf (.getStatus 0) = some ⟨0, 2, []⟩ ∧ requestOf (.getStatus 1) = some ⟨1, 2, []⟩ ∧
    4 ≤ ({ open20 with link := { open20.link with queue := List.replicate 4 ⟨1, 2, []⟩ } } : State).link.queue.length ∧
    replying.link.queue.length < 4 ∧ replying.link.reply ≠ none := by decide
theorem witness_ReplySent : open20.link.tx ≠ .reply ∧ replying.link.tx = .reply ∧
    replying.link.reply = some ⟨5, 0x01, .ok, []⟩ ∧
    replying.link.queue = ⟨5, 0x01, []⟩ :: ⟨6, 0x32, []⟩ :: [] ∧ requestOf (.watchList 6) = some ⟨6, 0x32, []⟩ := by decide
theorem witness_Framing : isRequestKind 0x00 = false ∧ isRequestKind 0x05 = false ∧ isRequestKind 0xFF = false ∧
    isRequestKind 0x20 = true ∧ [(0 : Byte)].length ≠ 16 ∧ isRequestKind 0x32 = true ∧ [(0 : Byte)].length ≠ 0 := by decide
theorem witness_ranges : 1 < (2 : Byte).toNat ∧ 2 < (3 : Byte).toNat ∧ (21 : Byte).toNat ∉ [20, 40, 45] ∧
    1 < (255 : Byte).toNat := by decide
theorem witness_ReadDescriptorAndNodes : (open20.attach.get .a).descriptor = some descriptor ∧
    (open20.attach.get .b).descriptor = none ∧ (open20.bus.get .a).transfer = none ∧
    ((reading open20).bus.get .a).transfer ≠ none := by decide
theorem witness_Abandon : open20.order = .idle ∧ faultHeld.order.stage = .faultHeld ∧
    proposed.order = .proposed ⟨.lock, .link, false⟩ 5000 ∧ (turning .driving).order.stage = .turning ∧
    held.order = .suspended lockHead := by decide
theorem witness_Resume : firstFailing
      [(decide (held.trip.state ≠ .clear), Status.state),
        (decide (held.trip.state ≠ .holding .trip ∧ held.trip.state ≠ .holding .start), .state),
        (held.trip.chainClosed, .tripOpen)] = none ∧ held.trip.pending = false ∧
    ({ held.trip with pending := true } : TripUnit).pending = true := by decide
/-- The key stands at BYPASS. -/
def keyed : State := updateCab .bypassKey (fun c => { c with level := some true }) landed20
theorem witness_BypassRequests : after (exec (.bypassEnter 1) keyed) (fun t => t.bypass == some .a) = true ∧
    keyed.bypass = none ∧ ({ keyed with bypass := some .a } : State).bypass = some .a := by decide
theorem witness_SetSpreader : CoilsHeld open20 := by
  rintro ⟨hb, i⟩
  cases hb <;> revert i <;> decide
theorem witness_SetSpreader_noBody : (open20.node .b bodyNode) = none := by decide
theorem witness_SetSpreader_body :
    (open20.node .a bodyNode).map (fun r => (r.link, r.input)) = some (.online, some 0x11) := by decide
theorem witness_SetSpreader_oneSensor : ∀ l : Length, l ≠ .l20 → posSensor 0x11 l = false := by
  intro l; cases l <;> decide
theorem witness_SetSpreader_noSensor : ∀ l : Length, posSensor 0x10 l = false := by
  intro l; cases l <;> decide
theorem witness_LoadProfile : (500 : Half).toNat ≤ 500 ∧ (500 : Half).toNat % 10 = 0 ∧ (0 : Half).toNat ≤ 500 ∧
    200 ≤ (200 : Half).toNat ∧ (10000 : Half).toNat ≤ 10000 ∧ 1 ≤ (1 : Byte).toNat ∧ (20 : Byte).toNat ≤ 20 ∧
    2 ≤ (2 : Byte).toNat ∧ (90 : Byte).toNat ≤ 90 ∧ ¬((510 : Half).toNat ≤ 500) := by decide
theorem witness_ReadNodeDiag : (1 ≤ (7 : Byte).toNat ∧ (7 : Byte).toNat ≤ 7) ∧ (248 : Byte).toNat + (8 : Byte).toNat ≤ 256 ∧
    ¬((249 : Byte).toNat + (8 : Byte).toNat ≤ 256) ∧ (7 : Byte).toNat = (6 : NodeIx).val + 1 := by decide
theorem witness_WatchRequests : (102 : Byte).toNat ≤ 102 ∧ 102 < (103 : Byte).toNat ∧ (103 : Byte) ≠ 255 ∧
    (∃ w ∈ [(⟨3, .rise⟩ : Watch)], w.signal = (3 : Byte).toNat) ∧
    32 ≤ ((List.range 32).map fun i => (⟨i, .rise⟩ : Watch)).length ∧
    ¬(∃ w ∈ ((List.range 32).map fun i => (⟨i, .rise⟩ : Watch)), w.signal = (102 : Byte).toNat) := by decide

/-! ## Hypotheses met: line, starts, pins, buses, times -/

theorem witness_ReceiveLine : open20.link.rx = .hunting ∧ (0xC2 : Byte) ≠ 0xC3 ∧ 2 ≤ (2 : Byte).toNat ∧
    (252 : Byte).toNat ≤ 252 ∧ (1 : Byte).toNat < 2 ∧ 252 < (253 : Byte).toNat ∧
    ([] : List Byte).length + 1 < 2 + 2 := by decide
theorem witness_ReceiveLine_last : ∃ (got body check : List Byte) (b : Byte),
    got ++ [b] = 1 :: 0x32 :: body ++ check ∧ check.length = 2 ∧ 2 = body.length + 2 ∧
      requestOf (.watchList 1) = some ⟨1, 0x32, body⟩ := ⟨[1, 0x32, 0], [], [0, 0], 0, by decide⟩
/-- The OK to a RESTART of the kind is on the line. -/
def restarting (kind : Byte) : State :=
  { turning .driving with link := { open20.link with
      tx := .reply, reply := some ⟨5, 0x04, .ok, []⟩, queue := [⟨5, 0x04, [kind]⟩] } }
theorem witness_Starts : (restarting 0).link.tx = .reply ∧ (restarting 0).link.reply = some ⟨5, 0x04, .ok, []⟩ ∧
    (restarting 1).link.queue = ⟨5, 0x04, [1]⟩ :: [] := by decide
theorem witness_RawLevels : open20.trip.chainRawClosed = true ∧ open20.trip.chainRawClosed ≠ false ∧
    (open20.attach.get .b).plugRaw = false ∧ (open20.attach.get .b).plugRaw ≠ true ∧ (open20.cabIn .gp1).raw = false ∧
    (open20.cabIn .gp1).raw ≠ true := by decide
/-- The chain has just been open for 5 ms. -/
def tripping (s : State) : State := { s with trip := { s.trip with chainRawClosed := false, chainTimer := some 5 } }
theorem witness_TripEdgeInClear : (tripping (turning .driving)).trip.chainTimer = some 5 ∧
    (tripping (turning .driving)).trip.chainRawClosed = false ∧ (tripping (turning .driving)).trip.chainClosed = true ∧
    (tripping (turning .driving)).trip.state = .clear := by decide
theorem witness_PendingTripAndRearm : (tripping held).trip.state ≠ .clear ∧ (tripping held).trip.chainClosed = true ∧
    open20.trip.chainTimer = none ∧
    (let s := { held with trip := { held.trip with chainClosed := false, chainTimer := some 200 } }
     s.trip.chainTimer = some 200 ∧ s.trip.chainRawClosed = true ∧ s.trip.chainClosed = false) := by decide
theorem witness_PlugsAndDelays :
    let s := updateAttach .a (fun a => { a with plugTimer := some 100 }) open20
    let u := updateAttach .a (fun a => { a with state := .releasing .empty, delayEnd := some 500 }) open20
    (s.attach.get .a).plugTimer = some 100 ∧ (u.attach.get .a).state = .releasing .empty ∧
      (u.attach.get .a).delayEnd = some 500 := by decide
theorem witness_FrameTimes :
    let sending := updateBus .a (fun b => { b with flight := some (newFlight 0 (.exchange 0 8)) }) open20
    (open20.bus.get .a).flight = none ∧ (sending.bus.get .a).flight = some (newFlight 0 (.exchange 0 8)) ∧
      (newFlight 0 (.exchange 0 8)).phase = .sending ∧
      ((inWindow 0 .identify open20).bus.get .a).flight = some ⟨0, .identify, .window, 0, false, false, false, false⟩ ∧
      ((extended 0 .identify open20).bus.get .a).flight = some ⟨0, .identify, .extended, 0, false, false, false, false⟩ := by
  decide
set_option maxRecDepth 10000 in
theorem witness_GoodExchange :
    let s := inWindow 0 (.exchange 5 8) (turning .driving)
    let reply : List Byte := [0x21, 1, 0x1B, 1, 0]
    (s.bus.get .a).flight = some ⟨0, .exchange 5 8, .window, 0, false, false, false, false⟩ ∧ s.node .a 0 ≠ none ∧
      (State.reset.bus.get .a).flight = none ∧ (inWindow 0 (.exchange 0 8) State.reset).node .a 0 = none ∧
      (reply ++ [crc8 reply]).length = 6 ∧ (∃ om ∈ s.order.activeMembers, om.member ∈ nodeMembers .a 0) := by decide
set_option maxRecDepth 10000 in
/-- At a second disagreement A1's coil latches, its order is aborted and MEMBER_FAULT stands before ORDER_STAGE. -/
theorem witness_GoodExchange_latches : after (exec
    (.exchReply .a [0x21, 1, 0x2D, 0, 0, crc8 [0x21, 1, 0x2D, 0, 0]] false)
    (inWindow 0 (.exchange 1 8) (updatePairs (fun _ r => { r with mismatch := true }) (turning .driving)))) (fun t =>
    heldReason t == some .coilFault && (t.pair a1.pair).fault && !(t.pair a5.pair).fault &&
      (t.notices.queue.head?.map Notice.body) == some (.memberFault a1.pair (.on .first) .bothOff (.on .first))) = true := by
  decide
set_option maxRecDepth 10000 in
theorem witness_GoodExchange_landedLost : after (exec
    (.exchReply .a [0x21, 1, 0x24, 1, 0, crc8 [0x21, 1, 0x24, 1, 0]] false)
    (inWindow 0 (.exchange 1 8) (turning .driving))) (fun t => heldReason t == some .landedLost) = true := by decide
theorem witness_MissedExchange :
    let s := inWindow 0 (.exchange 5 8) (turning .driving)
    let worn := updateBus .a (Bus.updateNode 0 fun r => { r with misses := 2 }) s
    (s.node .a 0).map NodeRec.misses = some 0 ∧ (worn.node .a 0).map NodeRec.misses = some 2 ∧
      (worn.node .a 0).map NodeRec.link = some .online ∧ (worn.attachState .a) = Prior.armed.state ∧
      (∃ om ∈ worn.order.activeMembers, om.member ∈ nodeMembers .a 0) := by decide
/-- The census of the five nodes of `descriptor`, its last address being asked. -/
def censusEnd : Census :=
  ⟨Vector.ofFn fun n => if n.val < 4 then some ⟨.corner, 0, []⟩ else if n.val = 4 then some ⟨.body, 0, []⟩ else none, 6, 1⟩
theorem witness_CensusReply :
    let s := updateAttach .a (fun a => { a with state := .census, census := some censusEnd }) (inWindow 6 .identify State.reset)
    let u := updateAttach .a (fun a => { a with state := .reidentify .armed, census := some .start })
      (inWindow 0 .identify open20)
    (s.bus.get .a).flight = some ⟨6, .identify, .window, 0, false, false, false, false⟩ ∧
      (s.attach.get .a).census = some censusEnd ∧ censusEnd.node = 6 ∧ (s.attach.get .a).state = .census ∧
      (u.attach.get .a).state = .reidentify .armed ∧ (u.attach.get .a).descriptor = some descriptor ∧
      (u.attach.get .a).census = some .start ∧ Census.start.node = 0 := by decide
/-- The descriptor of `descriptor` as 16 bytes. -/
def descriptorBytes : List Byte := [0, 0, 0, 7, 0, 2, 1, 0x0F, 5, 0x11, 0x12, 0x13, 0x14, 0x25, 0, 0]
theorem witness_CensusReply_outcomes :
    let full : Census :=
      { censusEnd with answers := Vector.ofFn fun n =>
          if n = bodyNode then some ⟨.body, 0, descriptorBytes⟩ else censusEnd.answers.get n }
    censusEnd.attempt < 3 ∧ 3 ≤ ({ censusEnd with attempt := 3 } : Census).attempt ∧ Census.start.node.val + 1 < 7 ∧
      (attached (.linkDown .armed) open20).attachState .a = .linkDown .armed ∧ descriptorBytes.length = 16 ∧
      full.node.val = 6 ∧ (full.answers.get 4).map Answer.kind = some .body ∧
      descriptorOf? ((full.answers.get 4).map Answer.descriptor |>.getD []) ≠ none := by decide
theorem witness_DiagReply :
    let s := inWindow 0 (.diagRead 0) (reading open20)
    (s.bus.get .a).flight = some ⟨0, .diagRead 0, .window, 0, false, false, false, false⟩ ∧
      (s.node .a 0).map NodeRec.link = some .online ∧ (s.bus.get .a).transfer ≠ none ∧
      (List.replicate 23 (0 : Byte)).length < 24 ∧ (List.replicate 24 (0 : Byte)).length ≤ 24 ∧
      ((s.bus.get .a).transfer.map Transfer.node) = some 0 ∧ ((s.node .a 0).map fun r => r.misses.val) = some 0 ∧
      ((lostAwaited.node .a 0).map NodeRec.link) = some .lost ∧ (lostAwaited.bus.get .a).flight = none := by decide
theorem witness_BusTimes :
    (noneDue.node .a 0).bind NodeRec.lastBegun = some 0 ∧
      (let s := attached (.linkDown .armed) (updateBus .a (fun b => { b with lastProbe := some 0 }) open20)
       (s.attach.get .a).state = .linkDown .armed ∧ (s.bus.get .a).lastProbe = some 0) ∧
      ((updatePairs (fun _ r => { r with lastOnFirst := some 0 }) open20).pair a1.pair).lastOn .first = some 0 ∧
      ((updateBus .a (Bus.updateNode 0 fun r => { r with link := .lost }) open20).node .a 0).map NodeRec.link =
        some .lost ∧
      (open20.node .a 0).bind NodeRec.lastBegun = none ∧ (open20.pair a1.pair).lastOn .first = none ∧
      (∀ prior, open20.attachState .a ≠ .linkDown prior) := by
  refine ⟨by decide, by decide, by decide, by decide, by decide, by decide, fun prior => by cases prior <;> decide⟩
/-- A1's pair waits for the earliest time, A5's for a later one. -/
theorem witness_BusTimes_waits : (∀ p ∈ [a1.pair, a5.pair], p ∈ lostAwaited.awaitingOff ∧ p ∈ nodePairs .a 0 ∧
      lostAwaited.stillSending p = false) ∧
    ((lostAwaited.node .a 0).map fun r => (r.offTime a1.pair, r.offTime a5.pair)) = some (260, 310) := by decide
theorem witness_Deadlines : (∃ om ∈ (turning .deadWait).order.activeMembers, om.member = a1 ∧ om.progress = .deadWait) ∧
    ((updateSetting .a (fun u => { u with op := u.op.map fun op => { op with phase := .deadWait } })
      telescoping).setting.get .a).op.map SetOp.phase = some .deadWait ∧ (telescoping.setting.get .a).op ≠ none := by decide
theorem witness_CabInputs : ((updateCab .lockPb (fun _ => ⟨true, some false, some 30⟩) open20).cabIn .lockPb).timer = some 30 ∧
    ((updateCab .lockPb (fun _ => ⟨true, some false, some 30⟩) open20).cabIn .lockPb).level = some (!true) ∧
    (open20.cabIn .lockPb).timer = some 30 ∧ (open20.cabIn .lockPb).level ≠ some (!false) := by decide

end Sys2Proof.Tests
end

section
/-! SUPPORT. How the end of every action leaves the group record and the permits, how a request is answered, and the
statements of the family "the lift group and the hoist permits". -/

namespace Sys2Proof.Machine

/-! ## Tables of checks -/

@[simp] theorem firstFailing_nil {α : Type} : firstFailing ([] : List (Bool × α)) = none := rfl

/-- The checks of a table are read in order; the guard is the check's failing, as the model's tables of causes and
refusals have it. -/
theorem firstFailing_cons {α : Type} (p : Prop) [Decidable p] (a : α) (rest : List (Bool × α)) :
    firstFailing ((decide p, a) :: rest) = if ¬p then some a else firstFailing rest := by
  by_cases h : p <;> simp [firstFailing, h]

/-! ## Answers to a request that is taken at once -/

/-- R165: with a free line and an empty queue a request is answered as its owner answers it. -/
theorem answers_of_free {i : Instr} {q : Request} {s : State} {status : Status} {values : List Byte}
    {act : State → State} (hq : requestOf i = some q) (free : Free s) (tag : q.tag ≠ 0)
    (owner : answerRequest q.kind q.body (enqueue q s) = ⟨status, values, act (enqueue q s)⟩) :
    answers i s status values act :=
  ⟨q, hq, by rw [exec_free i q s hq free tag, owner]; rfl⟩

/-- A table of checks judges a request as the refusal that the table's first failing check gives. -/
theorem judged_of_firstFailing {i : Instr} {s : State} {checks : List (Bool × Status)} {accepted : Prop}
    (refused : ∀ status, firstFailing checks = some status → refuses i s status)
    (passed : firstFailing checks = none → accepted) : judged i s checks accepted := by
  unfold judged
  split
  case h_1 status h => exact refused status h
  case h_2 h => exact passed h

/-! ## The model's conditions as the tables' checks

The model asks whether a check fails and the statements whether it passes, so the right sides are negated checks. -/

theorem isFaultHeld_iff (o : OrderRec) : o.isFaultHeld = true ↔ ¬o.stage ≠ .faultHeld := by
  rcases o with _ | _ | ⟨_ | _, _, _, _⟩ | _ | _ <;> simp [OrderRec.isFaultHeld, OrderRec.stage]

theorem runs_iff (o : OrderRec) : o.runs = true ↔ ¬(o.stage ≠ .turning ∧ o.stage ≠ .settling) := by
  rcases o with _ | _ | ⟨_ | _, _, _, _⟩ | _ | _ <;> simp [OrderRec.runs, OrderRec.stage]

theorem setOpRuns_iff (s : State) : s.setOpRuns = true ↔ ¬∀ hb ∈ headblocks, (s.setting.get hb).op = none := by
  simp [State.setOpRuns, State.setOpOn, headblocks, Option.isSome_iff_ne_none, imp_iff_not_or]

theorem faulty_iff (s : State) (m : Member) :
    s.faulty m = true ↔
      (s.member m).position = .unknown ∨ (s.member m).position = .conflict ∨ (s.pair m.pair).fault = true := by
  simp [State.faulty, State.latched, or_assoc]

/-- R14, Table 1-7: the rows in their order. -/
theorem groupStateOf_eq (s : State) (ms : List Member) :
    s.groupStateOf ms =
      if ms = [] then .notReady
      else if ∃ m ∈ ms, s.faulty m = true then .fault
      else if ∀ m ∈ ms, (s.member m).position = .locked then .allLocked
      else if ∀ m ∈ ms, (s.member m).position = .unlocked then .allUnlocked
      else .mixed := by
  simp only [State.groupStateOf, List.isEmpty_iff, List.any_eq_true, List.all_eq_true, beq_iff_eq]

/-- R16. -/
theorem summaryOf_eq (s : State) (ms : List Member) :
    s.summaryOf ms =
      if ∃ m ∈ ms, (s.member m).landed = .on then
        if ∀ m ∈ ms, (s.member m).landed = .on then .all else .some
      else .none := by
  simp only [State.summaryOf, Bool.not_eq_true', ← Bool.not_eq_true, List.any_eq_true, List.all_eq_true, beq_iff_eq,
    ite_not]

/-- R18: the up permit's cause is the first condition of Table 1-8 that fails. -/
theorem upCause_eq_firstFailing (s : State) :
    s.upCause = firstFailing
      [(decide (s.trip.state = .clear), PermitCause.trip), (decide (s.bypass = none), .bypass),
        (decide (s.order = .idle), .order), (decide (∀ hb ∈ headblocks, (s.setting.get hb).op = none), .setting),
        (decide (s.group.state = .allLocked ∨ s.group.state = .allUnlocked), .group)] := by
  simp only [State.upCause, firstFailing_cons, firstFailing_nil, bne_iff_ne, ne_eq, Option.isSome_iff_ne_none,
    setOpRuns_iff, Bool.or_eq_true, beq_iff_eq, ite_not]

/-- R19: the down permit's cause is the first condition of Table 1-9 that fails. -/
theorem downCause_eq_firstFailing (s : State) :
    s.downCause = firstFailing
      [(decide (s.trip.state = .clear), PermitCause.trip), (decide (s.bypass = none), .bypass),
        (decide (s.order.stage ≠ .turning ∧ s.order.stage ≠ .settling), .order)] := by
  simp only [State.downCause, firstFailing_cons, firstFailing_nil, bne_iff_ne, ne_eq, Option.isSome_iff_ne_none,
    runs_iff]

/-- R8: a mode request's refusal is that of the first check of Table 1-5, after the range, that fails. -/
theorem modeRefusal_eq_firstFailing (s : State) :
    s.modeRefusal = firstFailing
      [(decide (s.trip.state = .clear), Status.hold), (decide (s.order.stage ≠ .faultHeld), .held),
        (decide (s.order = .idle), .busy), (decide (s.bypass = none), .state),
        (decide (∀ hb ∈ headblocks, (s.setting.get hb).op = none), .busy),
        (decide (s.group.state = .notReady ∨ s.group.state = .allUnlocked ∧ s.group.summary = .none), .locked)] := by
  simp only [State.modeRefusal, firstFailing_cons, firstFailing_nil, bne_iff_ne, ne_eq, Option.isSome_iff_ne_none,
    isFaultHeld_iff, setOpRuns_iff, Bool.or_eq_true, Bool.and_eq_true, beq_iff_eq, ite_not]

theorem modeOf?_code (mode : TrolleyMode) : modeOf? mode.code = some mode := by
  cases mode <;> rfl

theorem modeOf?_eq_none {b : Byte} (h : 2 < b.toNat) : modeOf? b = none := by
  have distinct : ∀ c : Byte, c.toNat ≤ 2 → b ≠ c := by rintro c hc rfl; omega
  simp [modeOf?, distinct]

/-! ## The group and the permits after every command -/

/-- The group state and the summary read the members and the pairs alone. -/
theorem groupStateOf_summaryOf_congr {s t : State} (hm : t.members = s.members) (hp : t.pairs = s.pairs)
    (ms : List Member) : t.groupStateOf ms = s.groupStateOf ms ∧ t.summaryOf ms = s.summaryOf ms := by
  have member : t.member = s.member := funext fun m => by simp only [State.member, hm]
  have faulty : t.faulty = s.faulty := funext fun m => by
    simp only [State.faulty, State.latched, State.pair, member, hp]
  simp only [State.groupStateOf, State.summaryOf, member, faulty, and_self]

/-- Every next state that a command answers is left by the end of an action. -/
theorem exec_next_finish {c : Instr} {s t : State} (h : exec c s = .next t) : ∃ old u, t = finish old u := by
  obtain ⟨old, u, hu⟩ := exec_finishes c s
  rw [hu, Host.Outcome.next.injEq] at h
  exact ⟨old, u, h.symm⟩

/-- R15: the group state agrees with the members as they stand after the command. -/
theorem exec_groupState {c : Instr} {s t : State} (h : exec c s = .next t) :
    t.group.state = t.groupStateOf t.group.members := by
  obtain ⟨old, u, rfl⟩ := exec_next_finish h
  rw [finish_groupState, finish_memberList,
    (groupStateOf_summaryOf_congr (finish_members u old) (finish_pairs u old) _).1]

/-- R15, R16: so does the landed summary. -/
theorem exec_summary {c : Instr} {s t : State} (h : exec c s = .next t) :
    t.group.summary = t.summaryOf t.group.members := by
  obtain ⟨old, u, rfl⟩ := exec_next_finish h
  rw [finish_summary, finish_memberList,
    (groupStateOf_summaryOf_congr (finish_members u old) (finish_pairs u old) _).2]

/-- R20: each permit is on exactly when it has no cause. -/
theorem exec_permits {c : Instr} {s t : State} (h : exec c s = .next t) :
    t.permits = ⟨t.upCause.isNone, t.downCause.isNone⟩ := by
  obtain ⟨old, u, rfl⟩ := exec_next_finish h
  exact finish_permits old u

/-- Settles O15: after every command the group record holds what Table 1-7 and R16 give for the members. -/
theorem groupStateAndSummary : Obligations.GroupStateAndSummary := by
  intro c s t h
  have hstate := exec_groupState h
  have hsummary := exec_summary h
  simp only [groupStateOf_eq, faulty_iff] at hstate
  rw [summaryOf_eq] at hsummary
  refine ⟨⟨?notReady, ?fault, ?allLocked, ?allUnlocked, ?mixed⟩, ?none, ?all, ?some⟩
  case notReady => intro empty; rw [hstate, if_pos empty]
  case fault => intro members bad; rw [hstate, if_neg members, if_pos bad]
  case allLocked => intro members ok locked; rw [hstate, if_neg members, if_neg ok, if_pos locked]
  case allUnlocked =>
    intro members ok locked unlocked
    rw [hstate, if_neg members, if_neg ok, if_neg locked, if_pos unlocked]
  case mixed =>
    intro members ok locked unlocked
    rw [hstate, if_neg members, if_neg ok, if_neg locked, if_neg unlocked]
  case none => intro off; rw [hsummary, if_neg fun ⟨m, hm, on⟩ => off m hm on]
  case all =>
    intro members on
    obtain ⟨m, hm⟩ := List.exists_mem_of_ne_nil _ members
    rw [hsummary, if_pos ⟨m, hm, on m hm⟩, if_pos on]
  case some => intro on ⟨m, hm, off⟩; rw [hsummary, if_pos on, if_neg fun all => off (all m hm)]

/-- Settles O16: the permits are on exactly while they have no cause, and each cause is read off its table. -/
theorem permitRules : Obligations.PermitRules := by
  intro c s t h
  have permits := exec_permits h
  rw [← upCause_eq_firstFailing, ← downCause_eq_firstFailing]
  exact ⟨by rw [permits, Option.isNone_iff_eq_none], rfl, by rw [permits, Option.isNone_iff_eq_none], rfl⟩

/-! ## SET_TROLLEY_MODE -/

theorem answerSetTrolleyMode_range {b : Byte} (h : 2 < b.toNat) (s : State) :
    answerSetTrolleyMode b s = refuse .range s := by
  simp only [answerSetTrolleyMode, modeOf?_eq_none h]

theorem answerSetTrolleyMode_refused {s : State} {status : Status} (h : s.modeRefusal = some status)
    (mode : TrolleyMode) : answerSetTrolleyMode mode.code s = refuse status s := by
  simp only [answerSetTrolleyMode, modeOf?_code, h]

theorem answerSetTrolleyMode_passed {s : State} (h : s.modeRefusal = none) (mode : TrolleyMode) :
    answerSetTrolleyMode mode.code s =
      answerOk (if mode = s.mode then s else compose { s with mode := mode }) := by
  simp only [answerSetTrolleyMode, modeOf?_code, h]

/-- Joining the receive queue changes nothing that Table 1-5 reads. -/
theorem modeRefusal_enqueue (q : Request) (s : State) : (enqueue q s).modeRefusal = s.modeRefusal := rfl

/-- Settles O34: the range is judged first, then the rest of Table 1-5 in its order. -/
theorem setTrolleyMode : Obligations.SetTrolleyMode := by
  intro s tag free htag
  refine ⟨fun b hb => ?range, fun mode =>
    judged_of_firstFailing (fun status failing => ?refused) fun passed => ?accepted⟩
  case range => exact answers_of_free rfl free htag (answerSetTrolleyMode_range hb _)
  case refused =>
    rw [← modeRefusal_eq_firstFailing] at failing
    exact answers_of_free rfl free htag
      (answerSetTrolleyMode_refused ((modeRefusal_enqueue _ s).trans failing) mode)
  case accepted =>
    rw [← modeRefusal_eq_firstFailing] at passed
    exact answers_of_free rfl free htag
      (answerSetTrolleyMode_passed ((modeRefusal_enqueue _ s).trans passed) mode)

end Sys2Proof.Machine
end

section
/-! SUPPORT. How the requests that create and end an order are answered, and the statements of the family "the twistlock
orders". -/

namespace Sys2Proof.Machine

/-! ## A table of checks on a request that is taken at once -/

/-- R165: with a free line and an empty queue a table of checks judges a request as its owner refuses it. -/
theorem judged_of_free {i : Instr} {q : Request} {s : State} {checks : List (Bool × Status)} {accepted : Prop}
    (hq : requestOf i = some q) (free : Free s) (tag : q.tag ≠ 0)
    (refused : ∀ status, firstFailing checks = some status →
      answerRequest q.kind q.body (enqueue q s) = refuse status (enqueue q s))
    (passed : firstFailing checks = none → accepted) : judged i s checks accepted :=
  judged_of_firstFailing (fun status failing => answers_of_free hq free tag (refused status failing)) passed

/-! ## SET_AUTHORITY -/

theorem authorityOf?_code (authority : Authority) : authorityOf? authority.code = some authority := by
  cases authority <;> rfl

theorem authorityOf?_eq_none {b : Byte} (h : 2 < b.toNat) : authorityOf? b = none := by
  have distinct : ∀ c : Byte, c.toNat ≤ 2 → b ≠ c := by rintro c hc rfl; omega
  simp [authorityOf?, distinct]

/-- R28: the checks after the range. -/
def authorityChecks (s : State) : List (Bool × Status) :=
  [(decide (s.order.stage ≠ .faultHeld), .held), (decide (s.order = .idle), .busy)]

theorem answerSetAuthority_range {b : Byte} (h : 2 < b.toNat) (s : State) :
    answerSetAuthority b s = refuse .range s := by
  simp only [answerSetAuthority, authorityOf?_eq_none h]

/-- R28: a value in range is refused by the first of the two checks that fails, and set when both pass. -/
theorem answerSetAuthority_code (authority : Authority) (s : State) :
    answerSetAuthority authority.code s =
      (firstFailing (authorityChecks s)).elim (answerOk { s with authority := authority }) fun status =>
        refuse status s := by
  simp only [answerSetAuthority, authorityOf?_code, authorityChecks, firstFailing_cons, firstFailing_nil,
    isFaultHeld_iff, bne_iff_ne, ne_eq]
  split
  case isTrue => rfl
  case isFalse => split <;> rfl

theorem answerSetAuthority_refused {s : State} {status : Status} (h : firstFailing (authorityChecks s) = some status)
    (authority : Authority) : answerSetAuthority authority.code s = refuse status s := by
  rw [answerSetAuthority_code, h, Option.elim_some]

theorem answerSetAuthority_passed {s : State} (h : firstFailing (authorityChecks s) = none) (authority : Authority) :
    answerSetAuthority authority.code s = answerOk { s with authority := authority } := by
  rw [answerSetAuthority_code, h, Option.elim_none]

/-- Settles O35: the range is judged first, then FAULT_HELD, then any other order. -/
theorem setAuthority : Obligations.SetAuthority := by
  intro s tag free htag
  refine ⟨fun b hb => ?range, fun authority =>
    judged_of_free rfl free htag (fun status failing => ?refused) fun passed => ?accepted⟩
  case range => exact answers_of_free rfl free htag (answerSetAuthority_range hb _)
  case refused => exact answerSetAuthority_refused (s := enqueue _ s) failing authority
  case accepted =>
    exact answers_of_free rfl free htag (answerSetAuthority_passed (s := enqueue _ s) passed authority)

/-! ## ORDER -/

theorem orderKindOf?_code (kind : OrderKind) : orderKindOf? kind.code = some kind := by
  cases kind <;> rfl

theorem orderKindOf?_eq_none {b : Byte} (h : 1 < b.toNat) : orderKindOf? b = none := by
  have distinct : ∀ c : Byte, c.toNat ≤ 1 → b ≠ c := by rintro c hc rfl; omega
  simp [orderKindOf?, distinct]

/-- R29: an order request's refusal is that of the first check of Table 2-5, after the range, that fails. -/
theorem orderRefusal_eq_firstFailing (s : State) :
    s.orderRefusal = firstFailing
      [(decide (s.authority ≠ .cabOnly), Status.authority), (decide (s.trip.state = .clear), .hold),
        (decide (s.order.stage ≠ .faultHeld), .held), (decide (s.order = .idle), .busy),
        (decide (s.group.state ≠ .notReady), .state)] := by
  simp only [State.orderRefusal, firstFailing_cons, firstFailing_nil, beq_iff_eq, bne_iff_ne, ne_eq, isFaultHeld_iff,
    not_not]

theorem answerOrder_range {b : Byte} (h : 1 < b.toNat) (s : State) : answerOrder b s = refuse .range s := by
  simp only [answerOrder, orderKindOf?_eq_none h]

theorem answerOrder_refused {s : State} {status : Status} (h : s.orderRefusal = some status) (kind : OrderKind) :
    answerOrder kind.code s = refuse status s := by
  simp only [answerOrder, orderKindOf?_code, h]

/-- R30: under LINK_ONLY the order is checked at once, under LINK_WITH_CONFIRM it waits for the cab. -/
theorem answerOrder_passed {s : State} (h : s.orderRefusal = none) (kind : OrderKind) :
    answerOrder kind.code s =
      answerAccepted (if s.authority = .linkOnly then checkOrder ⟨kind, .link, false⟩ none s
        else propose ⟨kind, .link, false⟩ s) := by
  simp only [answerOrder, orderKindOf?_code, h]

/-- Joining the receive queue changes nothing that Table 2-5 reads. -/
theorem orderRefusal_enqueue (q : Request) (s : State) : (enqueue q s).orderRefusal = s.orderRefusal := rfl

/-- Settles O36: the range is judged first, then the rest of Table 2-5 in its order; the authority decides between the
proposal and the check. -/
theorem orderRequest : Obligations.OrderRequest := by
  intro s tag free htag
  refine ⟨fun b hb => ?range, fun kind =>
    judged_of_free rfl free htag (fun status failing => ?refused) fun passed =>
      ⟨fun withConfirm => ?proposed, fun linkOnly => ?checked⟩⟩
  case range => exact answers_of_free rfl free htag (answerOrder_range hb _)
  case refused =>
    rw [← orderRefusal_eq_firstFailing] at failing
    exact answerOrder_refused ((orderRefusal_enqueue _ s).trans failing) kind
  case proposed =>
    rw [← orderRefusal_eq_firstFailing] at passed
    have confirmed : s.authority ≠ .linkOnly := by simp [withConfirm]
    exact answers_of_free rfl free htag
      ((answerOrder_passed ((orderRefusal_enqueue _ s).trans passed) kind).trans
        (congrArg answerAccepted (if_neg confirmed)))
  case checked =>
    rw [← orderRefusal_eq_firstFailing] at passed
    exact answers_of_free rfl free htag
      ((answerOrder_passed ((orderRefusal_enqueue _ s).trans passed) kind).trans
        (congrArg answerAccepted (if_pos linkOnly)))

/-! ## Endings of an order -/

/-- R47: an abort of an order in TURNING or SETTLING holds it, the members at fault FAILED. -/
theorem abortOrder_active {s : State} {stage : ActiveStage} {head : OrderHead} {members : List OrderMember}
    {deadline : Nat} (h : s.order = .active stage head members deadline) (reason : EndReason)
    (failed : OrderMember → Bool) :
    abortOrder reason failed s =
      heldOrder head (members.map fun om => if failed om then { om with progress := .failed } else om) reason s := by
  have named : ∀ p, s.orderPair p = true ↔
      ∃ om ∈ members.map (fun om => if failed om then { om with progress := .failed } else om), om.member.pair = p := by
    intro p
    simp [State.orderPair, h, OrderRec.activeMembers, apply_ite OrderMember.member]
  simp only [abortOrder, h, letGo, named]
  rfl

/-- An abort with no member at fault leaves every progress as it was. -/
theorem abortOrder_active_of_none_failed {s : State} {stage : ActiveStage} {head : OrderHead}
    {members : List OrderMember} {deadline : Nat} (h : s.order = .active stage head members deadline)
    (reason : EndReason) : abortOrder reason (fun _ => false) s = heldOrder head members reason s := by
  simp [abortOrder_active h]

/-- R37, R55: the member list of an order whose members are all FAILED. -/
theorem finalProgress_allFailed (members : List Member) :
    finalProgress (allFailed members) = members.map fun m => (m, .failed) := by
  simp [finalProgress, allFailed]

/-! ## ABANDON -/

section
variable {s : State} {head : OrderHead} {members : List OrderMember}

theorem answerAbandon_idle (h : s.order = .idle) : answerAbandon s = refuse .state s := by
  simp only [answerAbandon, h]

theorem answerAbandon_faultHeld {reason : EndReason} (h : s.order = .faultHeld head members reason) :
    answerAbandon s = refuse .state s := by
  simp only [answerAbandon, h]

theorem answerAbandon_proposed {deadline : Nat} (h : s.order = .proposed head deadline) :
    answerAbandon s = answerOk (endToIdle head .linkAbandon [] s) := by
  simp only [answerAbandon, h]

theorem answerAbandon_active {stage : ActiveStage} {deadline : Nat}
    (h : s.order = .active stage head members deadline) :
    answerAbandon s = answerOk (heldOrder head members .linkAbandon s) := by
  simp only [answerAbandon, h, abortOrder_active_of_none_failed h]

/-- R55, R89: the members of the hold record are held FAILED, and the hold record is emptied. -/
theorem answerAbandon_suspended {held : List Member} (h : s.order = .suspended head)
    (record : (s.trip.hold.map HoldRec.members).getD [] = held) :
    answerAbandon s = answerOk
      (postAll [.orderStage .faultHeld head, .orderEnd head .held .holdAbandoned (held.map fun m => (m, .failed))]
        { s with order := .faultHeld head (held.map fun m => ⟨m, .failed, false⟩) .holdAbandoned
                 trip := { s.trip with hold := none } }) := by
  simp only [answerAbandon, h, record, enterFaultHeld, finalProgress_allFailed]
  rfl

end

/-- Settles O37, by the stage of the order record. -/
theorem abandon : Obligations.Abandon := by
  intro s tag free htag
  have taken {status values act} := answers_of_free (i := .abandon tag) (status := status) (values := values)
    (act := act) rfl free htag
  cases order : s.order with
  | idle => exact taken (answerAbandon_idle order)
  | faultHeld head members reason => exact taken (answerAbandon_faultHeld order)
  | proposed head deadline => exact taken (answerAbandon_proposed order)
  | active stage head members deadline => exact taken (answerAbandon_active order)
  | suspended head => exact taken (answerAbandon_suspended (s := enqueue _ s) order rfl)

end Sys2Proof.Machine
end

section
/-! SUPPORT. How the requests that enter and leave bypass are answered, and the statement of the family "bypass mode for
stand testing". -/

namespace Sys2Proof.Machine

/-! ## BYPASS_ENTER -/

/-- A table of checks read as the answer it gives: one check at a time, as the owners of the requests ask them. -/
theorem elim_firstFailing_cons {α β : Type} (p : Prop) [Decidable p] (a : α) (rest : List (Bool × α)) (passed : β)
    (refused : α → β) :
    (firstFailing ((decide p, a) :: rest)).elim passed refused =
      if ¬p then refused a else (firstFailing rest).elim passed refused := by
  rw [firstFailing_cons, apply_ite (Option.elim · passed refused), Option.elim_some]

/-- R105: the spreader that a solo mode names; A stands in for TANDEM, which names none. -/
def TrolleyMode.named (mode : TrolleyMode) : Headblock := if mode = .soloB then .b else .a

theorem solo?_tandem : TrolleyMode.tandem.solo? = none := rfl

theorem solo?_of_ne_tandem {mode : TrolleyMode} (h : mode ≠ .tandem) : mode.solo? = some mode.named := by
  cases mode with
  | soloA | soloB => rfl
  | tandem => exact absurd rfl h

/-- R106, Table 6-2: the checks in their order. -/
def bypassEnterChecks (s : State) : List (Bool × Status) :=
  [(decide (s.trip.state = .clear), .hold), (decide (s.bypass = none), .state),
    (decide ((s.cabIn .bypassKey).level = some true), .key), (decide (s.mode ≠ .tandem), .state),
    (decide ((s.attach.get s.mode.named).state = .armed), .notArmed), (decide (s.order = .idle), .busy)]

/-- R106: BYPASS_ENTER is refused by the first check of Table 6-2 that fails, and turns bypass on when all pass. -/
theorem answerBypassEnter_eq (s : State) :
    answerBypassEnter s =
      (firstFailing (bypassEnterChecks s)).elim
        (answerOk (post (.bypassState true s.mode.named none) { s with bypass := some s.mode.named }))
        fun status => refuse status s := by
  simp only [answerBypassEnter, bypassEnterChecks, elim_firstFailing_cons, firstFailing_nil, Option.elim_none,
    State.keyBypass, State.attachState, bne_iff_ne, ne_eq, Option.isSome_iff_ne_none, Bool.not_eq_true',
    beq_eq_false_iff_ne]
  by_cases tandem : s.mode = .tandem
  case pos => simp only [tandem, solo?_tandem, not_true_eq_false, not_false_eq_true, if_true]
  case neg => simp only [tandem, solo?_of_ne_tandem tandem, not_false_eq_true, not_true_eq_false, if_false]

theorem answerBypassEnter_refused {s : State} {status : Status}
    (h : firstFailing (bypassEnterChecks s) = some status) : answerBypassEnter s = refuse status s := by
  rw [answerBypassEnter_eq, h, Option.elim_some]

theorem answerBypassEnter_passed {s : State} (h : firstFailing (bypassEnterChecks s) = none) :
    answerBypassEnter s =
      answerOk (post (.bypassState true s.mode.named none) { s with bypass := some s.mode.named }) := by
  rw [answerBypassEnter_eq, h, Option.elim_none]

/-! ## What an order does when bypass is left -/

section
variable {s : State} {head : OrderHead} {members : List OrderMember}

theorem orderBypassLeft_idle (h : s.order = .idle) : orderBypassLeft s = s := by
  simp only [orderBypassLeft, h]

theorem orderBypassLeft_suspended (h : s.order = .suspended head) : orderBypassLeft s = s := by
  simp only [orderBypassLeft, h]

theorem orderBypassLeft_faultHeld {reason : EndReason} (h : s.order = .faultHeld head members reason) :
    orderBypassLeft s = s := by
  simp only [orderBypassLeft, h]

theorem orderBypassLeft_proposed {deadline : Nat} (h : s.order = .proposed head deadline) :
    orderBypassLeft s = endToIdle head .bypassLeft [] s := by
  simp only [orderBypassLeft, h]

/-- R53, R47: a running order is held with every progress as it was. -/
theorem orderBypassLeft_active {stage : ActiveStage} {deadline : Nat}
    (h : s.order = .active stage head members deadline) :
    orderBypassLeft s = heldOrder head members .bypassLeft s := by
  simp only [orderBypassLeft, h, abortOrder_active_of_none_failed h]

end

/-! ## BYPASS_EXIT -/

theorem leaveBypass_on {s : State} {hb : Headblock} (h : s.bypass = some hb) (cause : LeaveCause) :
    leaveBypass cause s =
      orderBypassLeft (post (.bypassState false hb (some cause)) { s with bypass := none }) := by
  simp only [leaveBypass, h]

theorem answerBypassExit_off {s : State} (h : s.bypass = none) : answerBypassExit s = refuse .state s := by
  simp only [answerBypassExit, h, Option.isNone_none, if_true]

/-- R109: bypass goes off with its notice, and then the order does what R53 has it do. -/
theorem answerBypassExit_on {s t : State} {hb : Headblock} (h : s.bypass = some hb)
    (left : orderBypassLeft (post (.bypassState false hb (some .request)) { s with bypass := none }) = t) :
    answerBypassExit s = answerOk t := by
  simp only [answerBypassExit, h, Option.isNone_some, leaveBypass_on h, left, Bool.false_eq_true, if_false]

/-- Settles O40: BYPASS_ENTER by its table of checks, BYPASS_EXIT by the bypass state and then by the stage of the
order record. -/
theorem bypassRequests : Obligations.BypassRequests := by
  intro s tag free htag
  refine ⟨judged_of_free rfl free htag (fun status failing => ?refused) fun passed => ?entered,
    fun off => ?exitRefused, fun hb on => ?left⟩
  case refused => exact answerBypassEnter_refused (s := enqueue _ s) failing
  case entered => exact answers_of_free rfl free htag (answerBypassEnter_passed (s := enqueue _ s) passed)
  case exitRefused => exact answers_of_free rfl free htag (answerBypassExit_off (s := enqueue _ s) off)
  case left =>
    have taken {act : State → State} (left : orderBypassLeft _ = act _) := answers_of_free (i := .bypassExit tag)
      (act := act) rfl free htag (answerBypassExit_on (s := enqueue _ s) on left)
    cases order : s.order with
    | idle => exact taken (orderBypassLeft_idle order)
    | suspended head => exact taken (orderBypassLeft_suspended order)
    | faultHeld head members reason => exact taken (orderBypassLeft_faultHeld order)
    | proposed head deadline => exact taken (orderBypassLeft_proposed order)
    | active stage head members deadline => exact taken (orderBypassLeft_active order)

end Sys2Proof.Machine
end

section
/-! SUPPORT. How the requests about a spreader's attachment are answered, and the statement of the family "the spreader
attachment". -/

namespace Sys2Proof.Machine

/-! ## Numbers and ranges of a request body -/

theorem ofBe16_be16 (h : Half) : ofBe16 (h.extractLsb' 8 8) (h.extractLsb' 0 8) = h := by
  rw [ofBe16, BitVec.extractLsb'_append_extractLsb'_eq_extractLsb' (by decide)]
  exact BitVec.extractLsb'_eq_self

theorem ofBe32_be32 (w : Word) :
    ofBe32 (w.extractLsb' 24 8) (w.extractLsb' 16 8) (w.extractLsb' 8 8) (w.extractLsb' 0 8) = w := by
  rw [ofBe32, BitVec.extractLsb'_append_extractLsb'_eq_extractLsb' (by decide),
    BitVec.extractLsb'_append_extractLsb'_eq_extractLsb' (by decide),
    BitVec.extractLsb'_append_extractLsb'_eq_extractLsb' (by decide)]
  exact BitVec.extractLsb'_eq_self

theorem headblockOf?_code (hb : Headblock) : headblockOf? (headblockCode hb) = some hb := by
  cases hb <;> rfl

theorem headblockOf?_eq_none {b : Byte} (h : 1 < b.toNat) : headblockOf? b = none := by
  have distinct : ∀ c : Byte, c.toNat ≤ 1 → b ≠ c := by rintro c hc rfl; omega
  simp [headblockOf?, distinct]

theorem inRange_iff (n low high step : Nat) :
    inRange n low high step = true ↔ (low ≤ n ∧ n ≤ high) ∧ (n - low) % step = 0 := by
  simp only [inRange, Bool.and_eq_true, decide_eq_true_eq, beq_iff_eq]

/-! ## The conditions of Table 7-6 -/

/-- R120: the states in which a spreader stands identified. -/
theorem inService_eq_decide (state : AttachState) :
    state.inService = decide (state = .identified ∨ state = .armed) := by
  cases state <;> rfl

/-- Table 1-4, as the statements write it. -/
theorem names_eq_decide (mode : TrolleyMode) (hb : Headblock) :
    mode.names hb = decide (hb = .a ∧ mode ≠ .soloB ∨ hb = .b ∧ mode ≠ .soloA) := by
  cases mode <;> cases hb <;> rfl

/-- R120: the spreader stands in a proposal's mode, in a running order or in the hold record of a suspended one. -/
theorem orderInvolves_eq (s : State) (hb : Headblock) :
    s.orderInvolves hb = match s.order with
      | .proposed _ _ => decide (hb = .a ∧ s.mode ≠ .soloB ∨ hb = .b ∧ s.mode ≠ .soloA)
      | .active _ _ members _ => members.any fun om => om.member.hb = hb
      | .suspended _ => s.trip.hold.any fun h => h.members.any fun m => m.hb = hb
      | _ => false := by
  cases order : s.order with
  | idle | faultHeld => simp only [State.orderInvolves, order]
  | proposed => simp only [State.orderInvolves, order, names_eq_decide]
  | active | suspended => simp only [State.orderInvolves, order, beq_eq_decide]

/-- The table's checks are Booleans here, and the guard is the check's failing (see `firstFailing_cons`). -/
theorem firstFailing_cons_bool {α : Type} (check : Bool) (a : α) (rest : List (Bool × α)) :
    firstFailing ((check, a) :: rest) = if !check then some a else firstFailing rest := by
  cases check <;> rfl

/-- R120: the refusal of LOAD_PROFILE after RANGE is that of the first check of Table 7-6 that fails; a serial fits by
being `absent` or by being the one `held`. -/
theorem profileRefusal_eq_firstFailing {s : State} {hb : Headblock} {p : Profile} {involved absent held : Bool}
    (involves : s.involved hb = involved) (fits : s.serialFits hb p = (absent || held)) :
    s.profileRefusal hb p = firstFailing
      [(decide ((s.attach.get hb).state = .identified ∨ (s.attach.get hb).state = .armed), Status.state),
        (!decide ((s.attach.get hb).state = .armed) || !involved, .busy),
        (!decide ((s.attach.get hb).state = .armed) || absent || held, .profileMismatch)] := by
  simp only [State.profileRefusal, State.attachState, inService_eq_decide, beq_eq_decide, involves, fits,
    firstFailing_cons_bool, firstFailing_nil, Bool.or_assoc, Bool.not_or, Bool.not_not]

/-! ## The profile a LOAD_PROFILE carries (Table 7-5) -/

section
variable (presence : Byte) (serial : Word) (lockDead unlockDead bodyDead turn : Half) (settle setTimeout : Byte)

/-- Table 7-5: every field lies in its range and on its step, and an absent serial is sent as zeros (R166). -/
def ProfileInRanges : Prop :=
  (presence = 1 ∨ presence = 0 ∧ serial = 0) ∧ (lockDead.toNat ≤ 500 ∧ lockDead.toNat % 10 = 0) ∧
    (unlockDead.toNat ≤ 500 ∧ unlockDead.toNat % 10 = 0) ∧ (bodyDead.toNat ≤ 500 ∧ bodyDead.toNat % 10 = 0) ∧
    (200 ≤ turn.toNat ∧ turn.toNat ≤ 10000) ∧ (1 ≤ settle.toNat ∧ settle.toNat ≤ 20) ∧
    2 ≤ setTimeout.toNat ∧ setTimeout.toNat ≤ 90

/-- The profile spelled by fields in their ranges. -/
def carriedProfile : Profile :=
  ⟨if presence = 1 then some serial else none, lockDead.toNat, unlockDead.toNat, bodyDead.toNat, turn.toNat,
    settle.toNat, setTimeout.toNat⟩

variable {presence serial}

theorem optionalOf?_eq_some (h : presence = 1 ∨ presence = 0 ∧ serial = 0) :
    optionalOf? presence serial = some (if presence = 1 then some serial else none) := by
  obtain rfl | ⟨rfl, rfl⟩ := h <;> rfl

theorem optionalOf?_eq_none (h : ¬(presence = 1 ∨ presence = 0 ∧ serial = 0)) :
    optionalOf? presence serial = none := by
  obtain ⟨notPresent, notAbsent⟩ := not_or.mp h
  by_cases absent : presence = 0
  case pos => rw [optionalOf?, if_pos absent, if_neg fun zero => notAbsent ⟨absent, zero⟩]
  case neg => rw [optionalOf?, if_neg absent, if_neg notPresent]

variable {lockDead unlockDead bodyDead turn settle setTimeout}

theorem profileOf?_eq_some
    (h : ProfileInRanges presence serial lockDead unlockDead bodyDead turn settle setTimeout) :
    profileOf? presence serial lockDead unlockDead bodyDead turn settle setTimeout =
      some (carriedProfile presence serial lockDead unlockDead bodyDead turn settle setTimeout) := by
  obtain ⟨optional, numbers⟩ := h
  simp only [profileOf?, optionalOf?_eq_some optional, Bool.and_eq_true, inRange_iff]
  rw [if_pos (by omega), carriedProfile]

theorem profileOf?_eq_none
    (h : ¬ProfileInRanges presence serial lockDead unlockDead bodyDead turn settle setTimeout) :
    profileOf? presence serial lockDead unlockDead bodyDead turn settle setTimeout = none := by
  by_cases optional : presence = 1 ∨ presence = 0 ∧ serial = 0
  case neg => simp only [profileOf?, optionalOf?_eq_none optional]
  case pos =>
    have outside := not_and.mp h optional
    simp only [profileOf?, optionalOf?_eq_some optional, Bool.and_eq_true, inRange_iff]
    rw [if_neg (by omega)]

/-- Table 7-6: an absent serial fits every spreader, a present one the spreader whose descriptor holds it. -/
theorem serialFits_carriedProfile (s : State) (hb : Headblock)
    (h : presence = 1 ∨ presence = 0 ∧ serial = 0) :
    s.serialFits hb (carriedProfile presence serial lockDead unlockDead bodyDead turn settle setTimeout) =
      (decide (presence = 0) || (s.attach.get hb).descriptor.any fun d => decide (d.serial = serial)) := by
  obtain rfl | ⟨rfl, rfl⟩ := h <;> rfl

/-! ## LOAD_PROFILE -/

/-- Table 10-6: the sixteen bytes of the body spell the request's values. -/
theorem answerRequest_loadProfile (headblock : Byte) (s : State) :
    answerRequest 0x20 ([headblock, presence] ++ be32 serial ++ be16 lockDead ++ be16 unlockDead ++ be16 bodyDead ++
        be16 turn ++ [settle, setTimeout]) s =
      answerLoadProfile headblock
        (profileOf? presence serial lockDead unlockDead bodyDead turn settle setTimeout) s :=
  calc
    _ = answerLoadProfile headblock (profileOf? presence (ofBe32 _ _ _ _) (ofBe16 _ _) (ofBe16 _ _) (ofBe16 _ _)
          (ofBe16 _ _) settle setTimeout) s := rfl
    _ = _ := by simp only [ofBe32_be32, ofBe16_be16]

end

theorem answerLoadProfile_noHeadblock {b : Byte} (h : 1 < b.toNat) (profile : Option Profile) (s : State) :
    answerLoadProfile b profile s = refuse .range s := by
  simp only [answerLoadProfile, headblockOf?_eq_none h]

theorem answerLoadProfile_noProfile (b : Byte) (s : State) : answerLoadProfile b none s = refuse .range s := by
  cases headblock : headblockOf? b with
  | none | some => simp only [answerLoadProfile, headblock]

theorem answerLoadProfile_refused {s : State} {hb : Headblock} {p : Profile} {status : Status}
    (h : s.profileRefusal hb p = some status) :
    answerLoadProfile (headblockCode hb) (some p) s = refuse status s := by
  simp only [answerLoadProfile, headblockOf?_code, h]

theorem answerLoadProfile_passed {s : State} {hb : Headblock} {p : Profile} (h : s.profileRefusal hb p = none) :
    answerLoadProfile (headblockCode hb) (some p) s =
      answerOk (updateAttach hb (fun a => { a with profile := some p }) s) := by
  simp only [answerLoadProfile, headblockOf?_code, h]

/-- Settles O42: the headblock and the ranges of Table 7-5 are judged first, then the rest of Table 7-6 in its order. -/
theorem loadProfile : Obligations.LoadProfile := by
  intro s tag headblock presence serial lockDead unlockDead bodyDead turn settle setTimeout free htag request dead
    inRanges
  have taken (b : Byte) {status values act}
      (owner : ∀ q, answerLoadProfile b
        (profileOf? presence serial lockDead unlockDead bodyDead turn settle setTimeout) (enqueue q s) =
          ⟨status, values, act (enqueue q s)⟩) : answers (request b) s status values act :=
    answers_of_free rfl free htag ((answerRequest_loadProfile b _).trans (owner _))
  refine ⟨fun outside => ?range, fun ranges hb => ?table⟩
  case range =>
    refine taken headblock fun q => ?_
    obtain noHeadblock | notInRanges := outside
    · exact answerLoadProfile_noHeadblock noHeadblock _ _
    · rw [profileOf?_eq_none notInRanges]
      exact answerLoadProfile_noProfile headblock _
  case table =>
    rw [profileOf?_eq_some ranges] at taken
    have table := profileRefusal_eq_firstFailing
      (p := carriedProfile presence serial lockDead unlockDead bodyDead turn settle setTimeout)
      (congrArg (· || s.setOpOn hb) (orderInvolves_eq s hb)) (serialFits_carriedProfile s hb ranges.1)
    refine judged_of_firstFailing (fun status failing => ?refused) fun passed => ?accepted
    case refused => exact taken _ fun q => answerLoadProfile_refused (s := enqueue q s) (table.trans failing)
    case accepted => exact taken _ fun q => answerLoadProfile_passed (s := enqueue q s) (table.trans passed)

end Sys2Proof.Machine
end

section
/-! SUPPORT. How READ_NODE_DIAG is answered, and the statement of the family "the spreader bus". -/

namespace Sys2Proof.Machine

/-! ## The node and the blocks that READ_NODE_DIAG names (Table 8-8, check 1) -/

/-- Table 8-8, check 1, after the headblock: the address is a node's, and the blocks named are at most eight and lie
within the 256 of a node. -/
def DiagInRanges (address first count : Byte) : Prop :=
  (1 ≤ address.toNat ∧ address.toNat ≤ 7) ∧ (1 ≤ count.toNat ∧ count.toNat ≤ 8) ∧ first.toNat + count.toNat ≤ 256

section
variable {headblock address first count : Byte}

theorem diagTarget?_noHeadblock (h : 1 < headblock.toNat) : diagTarget? headblock address first count = none := by
  simp only [diagTarget?, headblockOf?_eq_none h]

theorem diagTarget?_outOfRanges (h : ¬DiagInRanges address first count) :
    diagTarget? headblock address first count = none := by
  cases hb : headblockOf? headblock with
  | none => simp only [diagTarget?, hb]
  | some =>
    by_cases node : 1 ≤ address.toNat ∧ address.toNat ≤ 7
    case neg => simp only [diagTarget?, hb, dif_neg node]
    case pos =>
      have blocks : ¬(1 ≤ count.toNat ∧ count.toNat ≤ 8 ∧ first.toNat + count.toNat ≤ 256) :=
        fun inside => h ⟨node, and_assoc.mpr inside⟩
      simp only [diagTarget?, hb, dif_pos node, if_neg blocks]

/-- Addresses count the nodes from 1. -/
theorem diagTarget?_inRanges (h : DiagInRanges address first count) (hb : Headblock) {n : NodeIx}
    (named : address.toNat = n.val + 1) : diagTarget? (headblockCode hb) address first count = some (hb, n) := by
  obtain ⟨node, blocks⟩ := h
  have index : (⟨address.toNat - 1, by omega⟩ : NodeIx) = n := Fin.ext (by simp only [named, Nat.add_sub_cancel])
  simp only [diagTarget?, headblockOf?_code, dif_pos node, if_pos (and_assoc.mp blocks), index]

end

/-! ## READ_NODE_DIAG -/

/-- R146: the refusal after RANGE is that of the first check of Table 8-8 that fails. -/
theorem diagRefusal_eq_firstFailing (s : State) (hb : Headblock) (n : NodeIx) :
    s.diagRefusal hb n = firstFailing
      [(decide ((s.attach.get hb).state = .identified ∨ (s.attach.get hb).state = .armed), Status.state),
        (((s.bus.get hb).node n).any fun r => decide (r.link = .online), .state),
        (decide ((s.bus.get hb).transfer = none), .busy)] := by
  simp only [State.diagRefusal, State.attachState, State.node, inService_eq_decide, beq_eq_decide,
    firstFailing_cons_bool, firstFailing_nil, Option.isSome_iff_ne_none, Bool.not_eq_true', decide_eq_false_iff_not,
    ne_eq]

/-- Joining the receive queue changes nothing that Table 8-8 reads. -/
theorem diagRefusal_enqueue (q : Request) (s : State) (hb : Headblock) (n : NodeIx) :
    (enqueue q s).diagRefusal hb n = s.diagRefusal hb n := rfl

section
variable {s : State} {headblock address first count : Byte} {hb : Headblock} {n : NodeIx}

theorem answerReadNodeDiag_range (h : diagTarget? headblock address first count = none) :
    answerReadNodeDiag headblock address first count s = refuse .range s := by
  simp only [answerReadNodeDiag, h]

theorem answerReadNodeDiag_refused {status : Status}
    (target : diagTarget? headblock address first count = some (hb, n)) (h : s.diagRefusal hb n = some status) :
    answerReadNodeDiag headblock address first count s = refuse status s := by
  simp only [answerReadNodeDiag, target, h]

/-- R146: the transfer created asks for the first block first, and nothing of it has been received. -/
theorem answerReadNodeDiag_passed (target : diagTarget? headblock address first count = some (hb, n))
    (h : s.diagRefusal hb n = none) :
    answerReadNodeDiag headblock address first count s =
      answerAccepted (setTransfer hb ⟨n, first.toNat, count.toNat, first.toNat, 1, 0, [], none⟩ s) := by
  simp only [answerReadNodeDiag, target, h]

end

/-- Settles O45: the headblock and the ranges of check 1 are judged first, then the rest of Table 8-8 in its order. -/
theorem readNodeDiag : Obligations.ReadNodeDiag := by
  intro s tag headblock address first count free htag valid
  refine ⟨fun outside => ?range, fun inside hb n named =>
    judged_of_free rfl free htag (fun status failing => ?refused) fun passed => ?accepted⟩
  case range =>
    have noTarget : diagTarget? headblock address first count = none :=
      outside.elim diagTarget?_noHeadblock diagTarget?_outOfRanges
    exact answers_of_free rfl free htag (answerReadNodeDiag_range noTarget)
  case refused =>
    rw [← diagRefusal_eq_firstFailing] at failing
    exact answerReadNodeDiag_refused (diagTarget?_inRanges inside hb named)
      ((diagRefusal_enqueue _ s hb n).trans failing)
  case accepted =>
    rw [← diagRefusal_eq_firstFailing] at passed
    exact answers_of_free rfl free htag (answerReadNodeDiag_passed (diagTarget?_inRanges inside hb named)
      ((diagRefusal_enqueue _ s hb n).trans passed))

end Sys2Proof.Machine
end

section
/-! SUPPORT. How the end of every action leaves the lamps, and the statement of the family "the cab panel". -/

namespace Sys2Proof.Machine

/-! ## The lamps after every command -/

/-- Table 9-3 reads nothing that the watches, the arbiters and the transmit line may change. -/
theorem lampsOf_of_keeps {s t : State} (k : keeps [.signals, .notices, .traffic, .tx] s t) : t.lampsOf = s.lampsOf := by
  have member : t.member = s.member := funext fun m => by simp only [State.member, k.members_eq]
  have groupOf : t.groupOf = s.groupOf := funext fun hb => by simp only [State.groupOf, k.memberList_eq]
  have runsOver : t.runsOver = s.runsOver := funext₂ fun kind hb => by simp only [State.runsOver, k.order_eq]
  have attachState : t.attachState = s.attachState := funext fun hb => by simp only [State.attachState, k.attach_eq]
  have landed : t.landedLamp = s.landedLamp := funext fun hb => by simp only [State.landedLamp, groupOf, member]
  have turn : t.turnLamp = s.turnLamp := funext₃ fun kind position hb => by
    simp only [State.turnLamp, runsOver, groupOf, member, k.order_eq]
  simp only [State.lampsOf, landed, turn, attachState, k.order_eq, k.state_eq, k.trip_eq, k.bypass_eq]

/-- R158: the lamps after an action. -/
theorem finish_lamps (old s : State) : (finish old s).lamps = (finish old s).lampsOf := by
  rw [finish_eq]
  generalize evalPermits (postGroup old (grouped s)) = t
  have k : keeps [.signals, .notices, .traffic, .tx] (evalLamps t) (sent (takeSignals (evalLamps t))) :=
    (takeSignals_keeps _).then (sent_keeps _)
  have derived : (evalLamps t).lamps = (evalLamps t).lampsOf := rfl
  rw [k.lamps_eq, derived, lampsOf_of_keeps k]

/-- R158: the lamps agree with the rest of the state as it stands after the command. -/
theorem exec_lamps {c : Instr} {s t : State} (h : exec c s = .next t) : t.lamps = t.lampsOf := by
  obtain ⟨old, u, rfl⟩ := exec_next_finish h
  exact finish_lamps old u

/-! ## The rows of a lamp -/

/-- Table 9-3 for a lamp whose FLASHING row stands before its STEADY row. -/
def Lamp.Follows (lamp : Lamp) (flashing steady : Prop) : Prop :=
  (flashing → lamp = .flashing) ∧ (¬flashing → steady → lamp = .steady) ∧ (¬flashing → ¬steady → lamp = .off)

theorem Lamp.follows_ite {flashes stands : Bool} {flashing steady : Prop} (hf : flashes = true ↔ flashing)
    (hs : stands = true ↔ steady) :
    (if flashes then Lamp.flashing else if stands then .steady else .off).Follows flashing steady := by
  rw [← hf, ← hs]
  exact ⟨fun f => if_pos f, fun f s => by rw [if_neg f, if_pos s], fun f s => by rw [if_neg f, if_neg s]⟩

/-- A lamp with no FLASHING row. -/
theorem Lamp.follows_ite_never {stands : Bool} {steady : Prop} (hs : stands = true ↔ steady) :
    (if stands then Lamp.steady else .off).Follows False steady :=
  Lamp.follows_ite (flashes := false) (by simp) hs

/-! ## The conditions of Table 9-3 -/

/-- An order runs: it is in TURNING or SETTLING. -/
def OrderRec.Running (o : OrderRec) : Prop := o.stage = .turning ∨ o.stage = .settling

/-- R158: an order of the kind runs and one of its members stands on the spreader. -/
def OrderRec.RunsOver (o : OrderRec) (kind : OrderKind) (hb : Headblock) : Prop :=
  o.Running ∧ ∃ head stage members due, o = .active stage head members due ∧ head.kind = kind ∧
    ∃ om ∈ members, om.member.hb = hb

theorem running_iff (o : OrderRec) : o.runs = true ↔ o.Running := by
  rw [runs_iff, OrderRec.Running, not_and_or, not_not, not_not]

theorem running_active (stage : ActiveStage) (head : OrderHead) (members : List OrderMember) (due : Nat) :
    (OrderRec.active stage head members due).Running := (running_iff _).mp rfl

theorem runsOver_iff (s : State) (kind : OrderKind) (hb : Headblock) :
    s.runsOver kind hb = true ↔ s.order.RunsOver kind hb := by
  cases order : s.order
  case active => simp [State.runsOver, OrderRec.RunsOver, order, running_active]
  all_goals simp [State.runsOver, OrderRec.RunsOver, order]

/-! ## The ten lamps -/

section
variable (s : State) (hb : Headblock)

theorem lampsOf_landed : s.lampsOf.landed.get hb = s.landedLamp hb := PerHead.get_ofFn _ hb
theorem lampsOf_locked : s.lampsOf.locked.get hb = s.turnLamp .lock .locked hb := PerHead.get_ofFn _ hb
theorem lampsOf_unlocked : s.lampsOf.unlocked.get hb = s.turnLamp .unlock .unlocked hb := PerHead.get_ofFn _ hb

/-- X_LANDED: the only lamp whose STEADY row comes first. -/
theorem landedLamp_eq :
    s.landedLamp hb =
      if s.groupOf hb ≠ [] ∧ ∀ m ∈ s.groupOf hb, (s.member m).landed = .on then .steady
      else if ∃ m ∈ s.groupOf hb, (s.member m).landed = .on then .flashing
      else .off := by
  simp only [State.landedLamp, Bool.and_eq_true, Bool.not_eq_true', List.isEmpty_eq_false_iff, List.all_eq_true,
    List.any_eq_true, beq_iff_eq, ne_eq]

/-- X_LOCKED and X_UNLOCKED: FLASHING while such an order runs over the spreader, STEADY only while none runs. -/
theorem turnLamp_follows (kind : OrderKind) (position : Position) :
    (s.turnLamp kind position hb).Follows (s.order.RunsOver kind hb)
      (¬s.order.Running ∧ s.groupOf hb ≠ [] ∧ ∀ m ∈ s.groupOf hb, (s.member m).position = position) := by
  refine Lamp.follows_ite (runsOver_iff s kind hb) ?_
  simp only [Bool.and_eq_true, Bool.not_eq_true', ← Bool.not_eq_true, running_iff, List.isEmpty_iff,
    List.all_eq_true, beq_iff_eq, ne_eq, and_assoc]

theorem orderLamp_follows :
    s.lampsOf.order.Follows (s.order.stage = .proposed) s.order.Running := by
  cases order : s.order
  case active stage _ _ _ =>
    cases stage <;> simp [Lamp.Follows, State.lampsOf, order, running_active, OrderRec.stage]
  all_goals simp [Lamp.Follows, State.lampsOf, order, OrderRec.Running, OrderRec.stage]

theorem faultLamp_follows :
    s.lampsOf.fault.Follows False (s.order.stage = .faultHeld ∨ s.group.state = .fault ∨
      ∃ h cause, (s.attach.get h).state = .attachFault cause) := by
  refine Lamp.follows_ite_never ?_
  simp only [Bool.or_eq_true, isFaultHeld_iff, ne_eq, not_not, beq_iff_eq, List.any_eq_true, or_assoc]
  refine or_congr Iff.rfl (or_congr Iff.rfl (exists_congr fun h => ?_))
  have listed : h ∈ headblocks := by cases h <;> decide
  rw [and_iff_right listed]
  cases state : (s.attach.get h).state <;> simp [State.attachState, state]

theorem holdLamp_follows :
    s.lampsOf.hold.Follows (s.trip.state ≠ .clear ∧ s.trip.pending = true) (s.trip.state ≠ .clear) := by
  by_cases clear : s.trip.state = .clear
  · simp [Lamp.Follows, State.lampsOf, clear]
  · cases pending : s.trip.pending <;> simp [Lamp.Follows, State.lampsOf, clear, pending]

theorem bypassLamp_follows : s.lampsOf.bypass.Follows False (s.bypass ≠ none) :=
  Lamp.follows_ite_never Option.isSome_iff_ne_none

end

/-- Settles O17: after every command the lamps are those derived, and each derived lamp follows its rows. -/
theorem lampTable : Obligations.LampTable := by
  intro c s t hb h ms runs involves follows landed
  have hms : t.groupOf hb = ms := rfl
  have landedRows := landedLamp_eq t hb
  rw [hms] at landedRows
  rw [exec_lamps h, lampsOf_landed, lampsOf_locked, lampsOf_unlocked]
  refine ⟨⟨?landedSteady, ?landedFlashing, ?landedOff⟩, turnLamp_follows t hb .lock .locked,
    turnLamp_follows t hb .unlock .unlocked, orderLamp_follows t, faultLamp_follows t, holdLamp_follows t,
    bypassLamp_follows t, rfl, rfl, rfl⟩
  case landedSteady => intro nonempty all; rw [landedRows, if_pos ⟨nonempty, all⟩]
  case landedFlashing => intro one notAll; rw [landedRows, if_neg fun ⟨_, all⟩ => notAll all, if_pos one]
  case landedOff =>
    intro noneLanded
    have notAll : ¬(ms ≠ [] ∧ ∀ m ∈ ms, landed m) := fun ⟨nonempty, all⟩ =>
      let ⟨m, hm⟩ := List.exists_mem_of_ne_nil ms nonempty
      noneLanded ⟨m, hm, all m hm⟩
    rw [landedRows, if_neg notAll, if_neg noneLanded]

end Sys2Proof.Machine
end

section
/-! SUPPORT. One induction over the commands for what the orders, the coils, the set operations and the trip unit keep:
a property of that core which every shared operation keeps is kept by every step. Then the four invariants of the core,
each proved operation by operation. -/

namespace Sys2Proof.Machine

-- One theorem at a time: proofs that wait for one another hold a thread each.
set_option Elab.async false

/-! ## The core of the state -/

/-- R175: a posted notice joins the queue while there is room, so the queue never exceeds its capacity. -/
theorem length_postAll {s : State} (h : s.notices.queue.length ≤ Config.noticeCapacity) (bodies : List NoticeBody) :
    (postAll bodies s).notices.queue.length ≤ Config.noticeCapacity := by
  have kept : ∀ (bodies : List NoticeBody) (n : NoticeUnit), n.queue.length ≤ Config.noticeCapacity →
      (bodies.foldl (NoticeUnit.post s.msTime) n).queue.length ≤ Config.noticeCapacity := by
    intro bodies
    induction bodies with
    | nil => exact fun _ h => h
    | cons body rest ih =>
      refine fun n h => ih _ ?_
      unfold NoticeUnit.post
      split
      · next room => simpa using room
      · exact h
  exact kept bodies s.notices h

/-- Queues and watch table within their capacities, read off the parts that hold them. -/
theorem WithinCapacity.of_parts {s t : State} (h : WithinCapacity s)
    (queue : t.link.queue.length ≤ s.link.queue.length)
    (notices : s.notices.queue.length ≤ Config.noticeCapacity → t.notices.queue.length ≤ Config.noticeCapacity)
    (watches : t.watches = s.watches) : WithinCapacity t := by
  obtain ⟨requests, room, entries, distinct⟩ := h
  exact ⟨queue.trans requests, notices room, watches ▸ entries, watches ▸ distinct⟩

theorem WithinCapacity.postAll {s : State} (h : WithinCapacity s) (bodies : List NoticeBody) :
    WithinCapacity (postAll bodies s) :=
  h.of_parts le_rfl (fun room => length_postAll room bodies) rfl

/-- Both states hold the same orders, commands, off marks, awaited pairs, set operations and hold, and the second keeps
the capacities when the first does. -/
structure SameCore (s t : State) : Prop where
  command : ∀ p, (t.pair p).command = (s.pair p).command
  offMark : ∀ p, (t.pair p).offMark = (s.pair p).offMark
  order : t.order = s.order
  awaitingOff : t.awaitingOff = s.awaitingOff
  op : ∀ hb, (t.setting.get hb).op = (s.setting.get hb).op
  tripState : t.trip.state = s.trip.state
  hold : t.trip.hold = s.trip.hold
  capacity : WithinCapacity s → WithinCapacity t

/-- The parts that hold the core. -/
def coreFields : List Field := [.pairs, .order, .awaitingOff, .setting, .trip]

/-- A change outside the core's parts that keeps the capacities. -/
theorem keeps.sameCore_of_capacity {l : List Field} {s t : State} (h : keeps l s t)
    (capacity : WithinCapacity s → WithinCapacity t) (free : ∀ f ∈ coreFields, f ∉ l := by decide) :
    SameCore s t where
  command p := by rw [h.pair_eq p (free _ (by decide))]
  offMark p := by rw [h.pair_eq p (free _ (by decide))]
  order := h.order_eq (free _ (by decide))
  awaitingOff := h.awaitingOff_eq (free _ (by decide))
  op hb := by rw [h.setting_eq (free _ (by decide))]
  tripState := by rw [h.trip_eq (free _ (by decide))]
  hold := by rw [h.trip_eq (free _ (by decide))]
  capacity := capacity

/-- The parts that bound the capacities. -/
def boundedFields : List Field := [.queue, .notices, .watches]

theorem keeps.withinCapacity {l : List Field} {s t : State} (h : keeps l s t)
    (free : ∀ f ∈ boundedFields, f ∉ l := by decide) (within : WithinCapacity s) : WithinCapacity t :=
  within.of_parts (by rw [h.queue_eq (free _ (by decide))]) (by rw [h.notices_eq (free _ (by decide))]; exact id)
    (h.watches_eq (free _ (by decide)))

/-- A change outside the core's parts leaves the core. -/
theorem keeps.sameCore {l : List Field} {s t : State} (h : keeps l s t)
    (free : ∀ f ∈ coreFields, f ∉ l := by decide) (bounded : ∀ f ∈ boundedFields, f ∉ l := by decide) :
    SameCore s t := h.sameCore_of_capacity (h.withinCapacity bounded) free

theorem postAll_sameCore (s : State) (bodies : List NoticeBody) : SameCore s (postAll bodies s) :=
  (postAll_keeps s bodies).sameCore_of_capacity fun h => h.postAll bodies

theorem post_sameCore (s : State) (body : NoticeBody) : SameCore s (post body s) := postAll_sameCore s [body]

/-- Pair records rewritten without their commands and off marks leave the core. -/
theorem SameCore.updatePairs {f : PairId → Pair → Pair} (s : State) (command : ∀ p r, (f p r).command = r.command)
    (offMark : ∀ p r, (f p r).offMark = r.offMark) : SameCore s (updatePairs f s) where
  command p := by simp [command]
  offMark p := by simp [offMark]
  order := rfl
  awaitingOff := rfl
  op _ := rfl
  tripState := rfl
  hold := rfl
  capacity := id

/-- A setting unit rewritten without its set operation leaves the core. -/
theorem SameCore.updateSetting {f : SettingUnit → SettingUnit} (s : State) (hb : Headblock)
    (op : (f (s.setting.get hb)).op = (s.setting.get hb).op) : SameCore s (updateSetting hb f s) where
  command _ := rfl
  offMark _ := rfl
  order := rfl
  awaitingOff := rfl
  op h := by
    rw [setting_updateSetting]
    split
    · next same => rw [op, same]
    · rfl
  tripState := rfl
  hold := rfl
  capacity := id

/-- The trip unit rewritten without its state and hold record leaves the core. -/
theorem SameCore.setTrip {u : TripUnit} (s : State) (state : u.state = s.trip.state) (hold : u.hold = s.trip.hold) :
    SameCore s { s with trip := u } where
  command _ := rfl
  offMark _ := rfl
  order := rfl
  awaitingOff := rfl
  op _ := rfl
  tripState := state
  hold := hold
  capacity := id

theorem clearLatches_sameCore (named : PairId → Bool) (s : State) : SameCore s (clearLatches named s) :=
  .updatePairs s (fun p r => by split <;> rfl) fun p r => by split <;> rfl

theorem clearMismatches_sameCore (named : PairId → Bool) (s : State) : SameCore s (clearMismatches named s) :=
  .updatePairs s (fun p r => by split <;> rfl) fun p r => by split <;> rfl

theorem SameCore.trans {s t u : State} (h : SameCore s t) (k : SameCore t u) : SameCore s u where
  command p := (k.command p).trans (h.command p)
  offMark p := (k.offMark p).trans (h.offMark p)
  order := k.order.trans h.order
  awaitingOff := k.awaitingOff.trans h.awaitingOff
  op hb := (k.op hb).trans (h.op hb)
  tripState := k.tripState.trans h.tripState
  hold := k.hold.trans h.hold
  capacity := k.capacity ∘ h.capacity

theorem expireLastOn_sameCore (p : PairId) (c : Side) (s : State) : SameCore s (expireLastOn p c s) := by
  unfold expireLastOn
  split
  · exact (keeps.refl [] s).sameCore
  · refine (advanceTo_keeps s _).sameCore.trans (.updatePairs _ (fun q r => ?_) fun q r => ?_) <;>
      (split <;> cases c <;> rfl)

theorem endTransfer_sameCore (hb : Headblock) (status : TransferEnd) (s : State) :
    SameCore s (endTransfer hb status s) := by
  unfold endTransfer
  split
  · exact (keeps.refl [] s).sameCore
  · exact (updateBus_keeps s hb _).sameCore.trans (post_sameCore _ _)

theorem abortTransferOf_sameCore (hb : Headblock) (n : NodeIx) (s : State) : SameCore s (abortTransferOf hb n s) := by
  unfold abortTransferOf
  split
  · exact endTransfer_sameCore hb _ s
  · exact (keeps.refl [] s).sameCore

theorem transferOutcome_sameCore (hb : Headblock) (outcome : FrameOutcome) (s : State) :
    SameCore s (transferOutcome hb outcome s) := by
  have set : ∀ t, SameCore s (setTransfer hb t s) := fun t => (setTransfer_keeps s hb t).sameCore
  unfold transferOutcome
  split
  · exact (keeps.refl [] s).sameCore
  split
  · simp only
    split
    · exact (set _).trans (endTransfer_sameCore hb _ _)
    split
    · exact (set _).trans (endTransfer_sameCore hb _ _)
    · exact set _
  all_goals
    split
    · exact set _
    · exact endTransfer_sameCore hb _ s

/-- The end of an action leaves the core. -/
theorem finish_sameCore (old s : State) : SameCore s (finish old s) := by
  refine (finish_keeps s old).sameCore_of_capacity fun h => ?_
  have grouped : WithinCapacity (grouped s) :=
    ((syncBus_keeps _ _).withinCapacity (by decide)
      ((syncBus_keeps _ _).withinCapacity (by decide) h) |> (evalGroup_keeps _).withinCapacity (by decide))
  rw [finish_eq]
  refine (sent_keeps _).withinCapacity (by decide) (WithinCapacity.postAll ?_ _)
  refine (setSignals_keeps _ _).withinCapacity (by decide) ((evalLamps_keeps _).withinCapacity (by decide) ?_)
  exact WithinCapacity.postAll ((setPermits_keeps _ _).withinCapacity (by decide) (grouped.postAll _)) _

/-! ## What a request can do -/

/-- What the answer to a request leaves of the state, by the owner that acts. -/
inductive RequestAct (s : State) : State → Prop
  | nothing : RequestAct s s
  | timing (t : Timing) : RequestAct s { s with timing := t }
  | mode (m : TrolleyMode) : RequestAct s (compose { s with mode := m })
  | authority (a : Authority) : RequestAct s { s with authority := a }
  | check (head : OrderHead) : s.order = .idle → s.trip.state = .clear → RequestAct s (checkOrder head none s)
  | propose (head : OrderHead) : s.order = .idle → s.trip.state = .clear → RequestAct s (propose head s)
  | abandonProposed {head : OrderHead} {due : Nat} : s.order = .proposed head due →
    RequestAct s (endToIdle head .linkAbandon [] s)
  | abandonActive : RequestAct s (abortOrder .linkAbandon (fun _ => false) s)
  | abandonHold {head : OrderHead} (members : List OrderMember) : s.order = .suspended head →
    RequestAct s (enterFaultHeld head .holdAbandoned members { s with trip := { s.trip with hold := none } })
  | clearFaults (named : PairId → Bool) : RequestAct s (clearLatches named (emptyFaultHeld s))
  | retrip {cause : HoldCause} : s.trip.state = .held cause → RequestAct s (retrip s)
  | resume {cause : HoldCause} : s.trip.state = .held cause → RequestAct s (resumeOrder (releaseHold s))
  | bypassEnter (hb : Headblock) : RequestAct s (post (.bypassState true hb none) { s with bypass := some hb })
  | bypassExit : RequestAct s (leaveBypass .request s)
  | setSpreader (hb : Headblock) (target : Setting) : s.trip.state = .clear → s.setOpOn hb = false →
    RequestAct s (acceptSet hb target s)
  | profile (hb : Headblock) (p : Profile) : RequestAct s (updateAttach hb (fun a => { a with profile := some p }) s)
  | arm (hb : Headblock) : RequestAct s (armHead hb s)
  | attachment (hb : Headblock) (f : Attach → Attach) : RequestAct s (changeAttach hb f [] s)
  | readDiag (hb : Headblock) (t : Transfer) : RequestAct s (setTransfer hb t s)
  | watchEdge (signal : Nat) (e : Edge) :
    RequestAct s { s with watches := s.watches.map fun w => if w.signal = signal then { w with edge := e } else w }
  | watchAdd (signal : Nat) (e : Edge) : (∀ w ∈ s.watches, w.signal ≠ signal) →
    s.watches.length < Config.watchCapacity → RequestAct s { s with watches := s.watches ++ [⟨signal, e⟩] }
  | watchFilter (keep : Watch → Bool) : RequestAct s { s with watches := s.watches.filter keep }

namespace RequestAct
variable {s : State}

theorem answerSetTiming (timing : Option Timing) : RequestAct s (answerSetTiming timing s).state := by
  unfold Machine.answerSetTiming
  split
  · exact .nothing
  split
  · exact .nothing
  split
  · exact .nothing
  · exact .timing _

theorem answerSetTrolleyMode (mode : Byte) : RequestAct s (answerSetTrolleyMode mode s).state := by
  unfold Machine.answerSetTrolleyMode
  split
  · exact .nothing
  split
  · exact .nothing
  · show RequestAct s (if _ then s else _)
    split
    · exact .nothing
    · exact .mode _

theorem answerSetAuthority (authority : Byte) : RequestAct s (answerSetAuthority authority s).state := by
  unfold Machine.answerSetAuthority
  split
  · exact .nothing
  split
  · exact .nothing
  split
  · exact .nothing
  · exact .authority _

theorem answerOrder (kind : Byte) : RequestAct s (answerOrder kind s).state := by
  unfold Machine.answerOrder
  split
  · exact .nothing
  split
  · exact .nothing
  · next passed =>
    have clear : s.trip.state = .clear ∧ s.order = .idle := by
      rw [orderRefusal_eq_firstFailing] at passed
      simp only [firstFailing_cons] at passed
      grind
    show RequestAct s (if _ then _ else _)
    split
    · exact .check _ clear.2 clear.1
    · exact .propose _ clear.2 clear.1

theorem answerAbandon : RequestAct s (answerAbandon s).state := by
  unfold Machine.answerAbandon
  split
  case h_1 | h_2 => exact .nothing
  case h_3 h => exact .abandonProposed h
  case h_4 => exact .abandonActive
  case h_5 h => exact .abandonHold _ h

theorem answerClearFaults : RequestAct s (answerClearFaults s).state := by
  unfold Machine.answerClearFaults
  split
  case h_1 | h_2 | h_3 => exact .nothing
  all_goals exact .clearFaults _

theorem answerResume : RequestAct s (answerResume s).state := by
  unfold Machine.answerResume
  split
  case h_1 | h_2 => exact .nothing
  case h_3 held =>
    split
    · exact .nothing
    split
    · exact .retrip held
    · exact .resume held

theorem answerBypassEnter : RequestAct s (answerBypassEnter s).state := by
  rw [answerBypassEnter_eq]
  cases firstFailing (bypassEnterChecks s)
  · exact .bypassEnter _
  · exact .nothing

theorem answerBypassExit : RequestAct s (answerBypassExit s).state := by
  unfold Machine.answerBypassExit
  split
  · exact .nothing
  · exact .bypassExit

theorem answerSetSpreader (headblock length mode : Byte) :
    RequestAct s (answerSetSpreader headblock length mode s).state := by
  unfold Machine.answerSetSpreader
  split
  · exact .nothing
  split
  · exact .nothing
  · next hb target _ _ passed =>
    have clear : s.trip.state = .clear ∧ s.setOpOn hb = false := by
      simp only [State.setRefusal, State.involved] at passed
      grind
    exact .setSpreader hb target clear.1 clear.2

theorem answerLoadProfile (headblock : Byte) (profile : Option Profile) :
    RequestAct s (answerLoadProfile headblock profile s).state := by
  unfold Machine.answerLoadProfile
  split
  · split
    · exact .nothing
    · exact .profile _ _
  · exact .nothing

theorem answerArm (headblock : Byte) : RequestAct s (answerArm headblock s).state := by
  unfold Machine.answerArm
  split
  · exact .nothing
  split
  · exact .nothing
  · exact .arm _

theorem answerDisarm (headblock : Byte) : RequestAct s (answerDisarm headblock s).state := by
  unfold Machine.answerDisarm
  split
  · exact .nothing
  split
  · exact .nothing
  split
  · exact .nothing
  · exact .attachment _ _

theorem answerRelease (headblock : Byte) : RequestAct s (answerRelease headblock s).state := by
  unfold Machine.answerRelease
  split
  · exact .nothing
  split
  · exact .nothing
  · exact .attachment _ _

theorem answerAttach (headblock : Byte) : RequestAct s (answerAttach headblock s).state := by
  unfold Machine.answerAttach
  split
  · exact .nothing
  split
  case h_1 | h_2 => exact .attachment _ _
  all_goals exact .nothing

theorem answerReadDescriptor (headblock : Byte) : RequestAct s (answerReadDescriptor headblock s).state := by
  unfold Machine.answerReadDescriptor
  split
  · exact .nothing
  split
  · exact .nothing
  · exact .nothing

theorem answerReadNodes (headblock : Byte) : RequestAct s (answerReadNodes headblock s).state := by
  unfold Machine.answerReadNodes
  split
  · exact .nothing
  · exact .nothing

theorem answerReadNodeDiag (headblock address first count : Byte) :
    RequestAct s (answerReadNodeDiag headblock address first count s).state := by
  unfold Machine.answerReadNodeDiag
  split
  · exact .nothing
  split
  · exact .nothing
  · exact .readDiag _ _

theorem answerWatchSet (signal edge : Byte) : RequestAct s (answerWatchSet signal edge s).state := by
  unfold Machine.answerWatchSet
  split
  · exact .nothing
  split
  · exact .nothing
  split
  · exact .watchEdge _ _
  next unknown =>
    split
    · next room => exact .watchAdd _ _ (by simpa using unknown) room
    · exact .nothing

theorem answerWatchClear (signal : Byte) : RequestAct s (answerWatchClear signal s).state := by
  unfold Machine.answerWatchClear
  split
  · have none : RequestAct s { s with watches := s.watches.filter fun _ => false } := .watchFilter _
    rw [List.filter_false] at none
    exact none
  split
  · exact .nothing
  · exact .watchFilter _

theorem answerRestart (kind : Byte) : RequestAct s (answerRestart kind s).state := by
  unfold Machine.answerRestart
  split <;> exact .nothing

theorem onEmpty {body : List Byte} {owner : State → Response} (h : RequestAct s (owner s).state) :
    RequestAct s (onEmpty body owner s).state := by
  unfold Machine.onEmpty
  split; exacts [h, .nothing]

theorem onOne {body : List Byte} {owner : Byte → State → Response} (h : ∀ b, RequestAct s (owner b s).state) :
    RequestAct s (onOne body owner s).state := by
  unfold Machine.onOne
  split; exacts [h _, .nothing]

theorem onTwo {body : List Byte} {owner : Byte → Byte → State → Response}
    (h : ∀ b c, RequestAct s (owner b c s).state) : RequestAct s (onTwo body owner s).state := by
  unfold Machine.onTwo
  split; exacts [h _ _, .nothing]

theorem onThree {body : List Byte} {owner : Byte → Byte → Byte → State → Response}
    (h : ∀ b c d, RequestAct s (owner b c d s).state) : RequestAct s (onThree body owner s).state := by
  unfold Machine.onThree
  split; exacts [h _ _ _, .nothing]

theorem onFour {body : List Byte} {owner : Byte → Byte → Byte → Byte → State → Response}
    (h : ∀ b c d e, RequestAct s (owner b c d e s).state) : RequestAct s (onFour body owner s).state := by
  unfold Machine.onFour
  split; exacts [h _ _ _ _, .nothing]

theorem onTiming (body : List Byte) : RequestAct s (onTiming body s).state := by
  unfold Machine.onTiming
  split; exacts [.answerSetTiming _, .nothing]

theorem onProfile (body : List Byte) : RequestAct s (onProfile body s).state := by
  unfold Machine.onProfile
  split; exacts [.answerLoadProfile _ _, .nothing]

/-- R165: a request does what its owner does, and one that its framing refuses does nothing. -/
theorem answerRequest (kind : Byte) (body : List Byte) (s : State) : RequestAct s (answerRequest kind body s).state := by
  unfold Machine.answerRequest
  split
  · exact onEmpty .nothing
  · exact onEmpty .nothing
  · exact onTiming _
  · exact onOne answerRestart
  · exact onOne answerSetTrolleyMode
  · exact onEmpty .nothing
  · exact onEmpty .nothing
  · exact onOne answerSetAuthority
  · exact onOne answerOrder
  · exact onEmpty answerAbandon
  · exact onEmpty answerClearFaults
  · exact onEmpty answerResume
  · exact onEmpty answerBypassEnter
  · exact onEmpty answerBypassExit
  · exact onThree answerSetSpreader
  · exact onProfile _
  · exact onOne answerArm
  · exact onOne answerDisarm
  · exact onOne answerRelease
  · exact onOne answerAttach
  · exact onOne answerReadDescriptor
  · exact onOne answerReadNodes
  · exact onFour answerReadNodeDiag
  · exact onTwo answerWatchSet
  · exact onOne answerWatchClear
  · exact onEmpty .nothing
  · exact .nothing

end RequestAct

/-! ## The induction over the commands -/

/-- A property of the core that every shared operation keeps, and that the starts establish. -/
structure CoreInvariant (P : State → Prop) : Prop where
  core : ∀ {s t}, SameCore s t → P s → P t
  claimOn : ∀ {s} named coil, P s → P (claimOn named coil s)
  claimOff : ∀ {s} named, P s → P (claimOff named s)
  checked : ∀ {s} (served : List PairId), P s →
    P (updatePairs (fun p r => if served.contains p then s.checkedPair p r else r) s)
  abort : ∀ {s} reason failed, P s → P (abortOrder reason failed s)
  endProposed : ∀ {s head due}, s.order = .proposed head due → P s → P { s with order := .idle }
  emptied : ∀ {s head members reason}, s.order = .faultHeld head members reason → P s → P { s with order := .idle }
  progress : ∀ {s stage head old due} new, s.order = .active stage head old due →
    new.map OrderMember.member = old.map OrderMember.member → P s → P (setProgress new s)
  propose : ∀ {s} head, s.order = .idle → s.trip.state = .clear → P s → P (propose head s)
  check : ∀ {s} head hold, s.order = .idle ∧ s.trip.state = .clear ∨ s.order.stage = .proposed → P s →
    P (checkOrder head hold s)
  abandonHold : ∀ {s head} members reason, s.order = .suspended head → P s →
    P { s with order := .faultHeld head members reason, trip := { s.trip with hold := none } }
  takeTrip : ∀ {s}, s.trip.state = .clear → P s → P (takeTrip s)
  retrip : ∀ {s}, s.trip.state ≠ .clear → P s → P (retrip s)
  resume : ∀ {s}, s.trip.state ≠ .clear → (∀ cause, s.trip.state ≠ .holding cause) → P s → P (resumeOrder (releaseHold s))
  confirmedOff : ∀ {s} gone, P s → P (dropAwaiting gone s)
  endOp : ∀ {s} hb setting, P s → P (updateSetting hb (fun _ => ⟨setting, 0, none⟩) (letGo (bodyPairOf hb) s))
  startOp : ∀ {s hb} (u : SettingUnit), u.op.isSome → (s.trip.state = .clear ∨ s.setOpOn hb = true) → P s →
    P (updateSetting hb (fun _ => u) s)
  reset : P State.reset
  warm : ∀ {s}, P s → P (warmState s)

theorem memberOnReply_member (s : State) (kind : OrderKind) (om : OrderMember) :
    (s.memberOnReply kind om).member = om.member := by
  unfold State.memberOnReply State.settleOnce State.slip State.enterDeadWait
  simp only
  repeat' split
  all_goals rfl

theorem powerOnState_withinCapacity (s : State) : WithinCapacity (powerOnState s) := by
  simp [WithinCapacity, powerOnState, Link.started, State.reset]

theorem noticeSent_withinCapacity {s : State} (h : WithinCapacity s) : WithinCapacity (noticeSent s) := by
  unfold noticeSent
  split
  · refine h.of_parts le_rfl (fun room => ?_) rfl
    rw [List.length_drop]
    omega
  · exact h

namespace CoreInvariant
variable {P : State → Prop} (inv : CoreInvariant P) {s : State}
include inv

/-- A state that agrees in the parts that hold the core and keeps the capacities. -/
theorem outside_of_capacity {t : State} (capacity : WithinCapacity s → WithinCapacity t) (hs : P s)
    (pairs : t.pairs = s.pairs := by rfl) (order : t.order = s.order := by rfl)
    (awaitingOff : t.awaitingOff = s.awaitingOff := by rfl) (setting : t.setting = s.setting := by rfl)
    (trip : t.trip = s.trip := by rfl) : P t :=
  inv.core ⟨fun _ => by rw [State.pair, pairs]; rfl, fun _ => by rw [State.pair, pairs]; rfl, order, awaitingOff,
    fun _ => by rw [setting], by rw [trip], by rw [trip], capacity⟩ hs

/-- A state that agrees in the parts that hold the core and in those that bound the capacities. -/
theorem outside {t : State} (hs : P s) (pairs : t.pairs = s.pairs := by rfl) (order : t.order = s.order := by rfl)
    (awaitingOff : t.awaitingOff = s.awaitingOff := by rfl) (setting : t.setting = s.setting := by rfl)
    (trip : t.trip = s.trip := by rfl) (notices : t.notices = s.notices := by rfl)
    (queue : t.link.queue = s.link.queue := by rfl) (watches : t.watches = s.watches := by rfl) : P t :=
  inv.outside_of_capacity (fun h => h.of_parts (by rw [queue]) (by rw [notices]; exact id) watches) hs pairs order
    awaitingOff setting trip

theorem keeps {l : List Field} {t : State} (h : keeps l s t) (hs : P s)
    (free : ∀ f ∈ coreFields, f ∉ l := by decide) (bounded : ∀ f ∈ boundedFields, f ∉ l := by decide) : P t :=
  inv.core (h.sameCore free bounded) hs

theorem postAll (bodies : List NoticeBody) (hs : P s) : P (postAll bodies s) := inv.core (postAll_sameCore s bodies) hs

theorem post (body : NoticeBody) (hs : P s) : P (post body s) := inv.postAll [body] hs

theorem advanceTo (due : Nat) (hs : P s) : P (advanceTo due s) := inv.keeps (advanceTo_keeps s due) hs

theorem updateBus (hb : Headblock) (f : Bus → Bus) (hs : P s) : P (updateBus hb f s) :=
  inv.keeps (updateBus_keeps s hb f) hs

theorem updateAttach (hb : Headblock) (f : Attach → Attach) (hs : P s) : P (updateAttach hb f s) :=
  inv.keeps (updateAttach_keeps s hb f) hs

theorem finish (old : State) (hs : P s) : P (finish old s) := inv.core (finish_sameCore old s) hs

/-! ### Orders, compositions and set operations -/

theorem endToIdle {head : OrderHead} {due : Nat} (reason : EndReason) (members : List OrderMember)
    (h : s.order = .proposed head due) (hs : P s) : P (endToIdle head reason members s) :=
  inv.postAll _ (inv.endProposed h hs)

theorem compose (hs : P s) : P (compose s) := by
  unfold Machine.compose
  split
  · exact hs
  · exact inv.abort _ _ (inv.outside hs)

theorem orderBypassLeft (hs : P s) : P (orderBypassLeft s) := by
  unfold Machine.orderBypassLeft
  split
  · next h => exact inv.endToIdle _ _ h hs
  · exact inv.abort _ _ hs
  all_goals exact hs

theorem leaveBypass (cause : LeaveCause) (hs : P s) : P (leaveBypass cause s) := by
  unfold Machine.leaveBypass
  split
  · exact hs
  · exact inv.orderBypassLeft (inv.post _ (inv.outside hs))

theorem abortSetOp (hb : Headblock) (reason : SetReason) (hs : P s) : P (abortSetOp hb reason s) := by
  unfold Machine.abortSetOp
  split
  · exact hs
  · exact inv.compose (inv.post _ (inv.endOp hb none hs))

theorem completeSetOp (hb : Headblock) (op : SetOp) (hs : P s) : P (completeSetOp hb op s) :=
  inv.compose (inv.post _ (inv.endOp hb _ hs))

/-- The record of a set operation is written on a spreader where one runs, or while no hold stands. -/
theorem setOpRecord (hb : Headblock) (op : SetOp) (may : s.trip.state = .clear ∨ s.setOpOn hb = true) (hs : P s) :
    P (setOp hb op s) := by
  have same : setOp hb op s = Machine.updateSetting hb (fun _ => { s.setting.get hb with op := some op }) s := rfl
  rw [same]
  exact inv.startOp _ rfl may hs

theorem driveStep (hb : Headblock) (op : SetOp) (may : s.trip.state = .clear ∨ s.setOpOn hb = true) (hs : P s) :
    P (driveStep hb op s) := inv.claimOn _ _ (inv.setOpRecord hb _ may hs)

theorem enterStepDeadWait (hb : Headblock) (op : SetOp) (may : s.trip.state = .clear ∨ s.setOpOn hb = true) (hs : P s) :
    P (enterStepDeadWait hb op s) := by
  unfold Machine.enterStepDeadWait
  split
  · exact inv.driveStep hb op may hs
  · exact inv.setOpRecord hb _ may hs

theorem takeStep (hb : Headblock) (op : SetOp) (name : StepName) (input : Byte)
    (may : s.trip.state = .clear ∨ s.setOpOn hb = true) (hs : P s) : P (takeStep hb op name input s) := by
  unfold Machine.takeStep
  split
  · unfold Machine.beginStep
    split
    · exact inv.enterStepDeadWait hb _ may hs
    · exact inv.setOpRecord hb _ may hs
  · exact inv.abortSetOp hb _ (inv.setOpRecord hb _ may hs)

theorem stepOnReply (hb : Headblock) (op : SetOp) (input : Byte) (on : s.setOpOn hb = true) (hs : P s) :
    P (stepOnReply hb op input s) := by
  unfold Machine.stepOnReply
  simp only
  split
  case h_1 => split; exacts [inv.enterStepDeadWait hb op (.inr on) hs, hs]
  case h_2 => split; exacts [inv.setOpRecord hb _ (.inr on) hs, hs]
  case h_3 => split; exacts [inv.claimOff _ (inv.setOpRecord hb _ (.inr on) hs), hs]
  case h_4 =>
    split
    · unfold Machine.endStep
      split
      · exact inv.takeStep hb op _ input (.inr on) hs
      · exact inv.completeSetOp hb op hs
    · exact hs

/-- A setting unit rewritten without its set operation. -/
theorem updateSetting (hb : Headblock) (f : SettingUnit → SettingUnit)
    (op : (f (s.setting.get hb)).op = (s.setting.get hb).op) (hs : P s) : P (updateSetting hb f s) :=
  inv.core (.updateSetting s hb op) hs

theorem settingOnReply (hb : Headblock) (n : NodeIx) (latching : List PairId) (input : Byte) (hs : P s) :
    P (settingOnReply hb n latching input s) := by
  unfold Machine.settingOnReply
  split
  · unfold settingOnBodyReply
    split
    · next h =>
      split
      · exact inv.abortSetOp hb _ hs
      · exact inv.stepOnReply hb _ input (by simp [State.setOpOn, h]) hs
    · split
      · unfold watchSetting
        split
        · exact inv.updateSetting hb _ rfl hs
        split
        · exact inv.updateSetting hb _ rfl hs
        · exact inv.compose (inv.updateSetting hb _ rfl hs)
      · exact hs
    · exact hs
  split
  · unfold settingOnCornerReply
    split
    · exact inv.abortSetOp hb _ hs
    · exact hs
  · exact hs

/-! ### Changes of attachment state -/

theorem composeOnAttach (hb : Headblock) (departed : Bool) (hs : P s) : P (composeOnAttach hb departed s) := by
  unfold Machine.composeOnAttach
  split
  · exact inv.abortSetOp hb _ (inv.compose hs)
  · exact inv.compose hs

theorem composeAndLeave (hb : Headblock) (hs : P s) : P (composeAndLeave hb s) := by
  have chosen : P (choose s) := inv.keeps (choose_keeps s) hs
  unfold Machine.composeAndLeave
  split
  · split
    · exact inv.composeOnAttach hb _ (inv.leaveBypass _ chosen)
    · exact inv.leaveBypass _ (inv.composeOnAttach hb _ chosen)
  · exact inv.leaveBypass _ (inv.composeOnAttach hb _ hs)

theorem endTransfer (hb : Headblock) (status : TransferEnd) (hs : P s) : P (endTransfer hb status s) :=
  inv.core (endTransfer_sameCore hb status s) hs

theorem settingOnAttach (hb : Headblock) (left entered : AttachState) (hs : P s) :
    P (settingOnAttach hb left entered s) := by
  unfold Machine.settingOnAttach
  split
  · split
    · exact hs
    · exact inv.updateSetting hb _ rfl hs
  split
  · exact inv.updateSetting hb _ rfl hs
  · exact hs

theorem handOnAttach (hb : Headblock) (left : AttachState) (hs : P s) : P (handOnAttach hb left s) := by
  have derived : P (rederiveHead hb (Machine.settingOnAttach hb left (s.attachState hb) s)) :=
    inv.keeps (rederive_keeps _ _) (inv.settingOnAttach hb _ _ hs)
  unfold Machine.handOnAttach
  simp only
  split <;> split
  · exact inv.composeAndLeave hb derived
  · exact inv.composeOnAttach hb _ derived
  · exact inv.endTransfer hb _ (inv.composeAndLeave hb derived)
  · exact inv.endTransfer hb _ (inv.composeOnAttach hb _ derived)

theorem changeAttach (hb : Headblock) (f : Attach → Attach) (further : List NoticeBody) (hs : P s) :
    P (changeAttach hb f further s) := by
  unfold Machine.changeAttach
  simp only
  refine inv.handOnAttach hb _ ?_
  split
  · exact inv.confirmedOff _ (inv.updateBus hb _ (inv.postAll _ (inv.updateAttach hb f hs)))
  · exact inv.postAll _ (inv.updateAttach hb f hs)

theorem insertPlug (hb : Headblock) (hs : P s) : P (insertPlug hb s) := by
  unfold Machine.insertPlug
  split
  · exact inv.changeAttach hb _ _ hs
  · exact hs

theorem plugSettled (hb : Headblock) (present : Bool) (hs : P s) : P (plugSettled hb present s) := by
  unfold Machine.plugSettled
  simp only
  split
  · exact hs
  split
  · have recognized := inv.updateAttach hb (fun a => { a with plug := a.plugRaw, plugTimer := none })
      (inv.advanceTo ‹Nat› hs)
    split
    · exact inv.insertPlug hb recognized
    · unfold removePlug
      split
      case h_1 | h_2 => exact recognized
      all_goals exact inv.changeAttach hb _ _ recognized
  · exact hs

theorem powerUpEnd (hb : Headblock) (hs : P s) : P (powerUpEnd hb s) := by
  unfold Machine.powerUpEnd
  split
  · exact inv.changeAttach hb _ _ (inv.advanceTo _ hs)
  · exact hs

theorem powerDownEnd (hb : Headblock) (hs : P s) : P (powerDownEnd hb s) := by
  unfold Machine.powerDownEnd
  split
  · have ended := inv.advanceTo ‹Nat› hs
    unfold afterRelease
    split
    · exact inv.changeAttach hb _ _ ended
    · exact inv.changeAttach hb _ _ ended
    · simp only
      split
      · exact inv.insertPlug hb (inv.changeAttach hb _ _ ended)
      · exact inv.changeAttach hb _ _ ended
  · exact hs

/-! ### Outcomes of frames -/

theorem endCensus (hb : Headblock) (c : Census) (verdict : Except AttachCause Descriptor) (hs : P s) :
    P (endCensus hb c verdict s) := by
  have filled : ∀ d, P (fillTable hb d c s) := fun d => inv.core (clearMismatches_sameCore _ _) (inv.updateBus hb _ hs)
  unfold Machine.endCensus
  split
  · exact inv.changeAttach hb _ _ hs
  split
  · split
    · exact inv.changeAttach hb _ _ (inv.core (clearMismatches_sameCore _ _) (inv.updateBus hb _ hs))
    · exact inv.changeAttach hb _ _ (inv.core (clearLatches_sameCore _ _) (filled _))
  · exact inv.changeAttach hb _ _ (filled _)

theorem identifyOutcome (hb : Headblock) (outcome : FrameOutcome) (hs : P s) : P (identifyOutcome hb outcome s) := by
  have on : ∀ c, P (censusOn hb c s) := by
    intro c
    unfold censusOn
    split
    · exact inv.updateAttach hb _ hs
    · exact inv.endCensus hb c _ hs
  have census : ∀ c, P (censusOutcome hb c outcome s) := by
    intro c
    unfold censusOutcome
    split
    · exact on _
    · exact inv.endCensus hb c _ hs
    all_goals split; exacts [inv.updateAttach hb _ hs, on c]
  unfold Machine.identifyOutcome
  split
  · exact census _
  · exact census _
  · split; exacts [inv.changeAttach hb _ _ hs, hs]
  · exact hs

theorem checkLinkDown (hb : Headblock) (hs : P s) : P (checkLinkDown hb s) := by
  unfold Machine.checkLinkDown
  split
  · exact hs
  · split
    · exact inv.changeAttach hb _ _ (inv.updateBus hb _ hs)
    · exact hs

theorem rederiveNode (hb : Headblock) (n : NodeIx) (hs : P s) : P (rederiveNode hb n s) :=
  inv.keeps (rederive_keeps s _) hs

theorem nodeLost (hb : Headblock) (n : NodeIx) (hs : P s) : P (nodeLost hb n s) := by
  have confirmed : P (Machine.rederiveNode hb n (confirmLost hb n s)) := inv.rederiveNode hb n (inv.confirmedOff _ hs)
  have order : ∀ {u}, P u → P (orderNodeLost hb n u) := by
    intro u hu
    unfold orderNodeLost
    simp only
    split; exacts [inv.abort _ _ hu, hu]
  have setting : ∀ {u}, P u → P (settingNodeLost hb n u) := by
    intro u hu
    unfold settingNodeLost
    split; exacts [inv.abortSetOp hb _ hu, hu]
  exact inv.checkLinkDown hb (inv.core (abortTransferOf_sameCore hb n _) (setting (order confirmed)))

theorem linkChanged (hb : Headblock) (n : NodeIx) (old : NodeLink) (hs : P s) : P (linkChanged hb n old s) := by
  unfold Machine.linkChanged
  split
  · exact hs
  split
  · exact hs
  split
  · exact inv.nodeLost hb n hs
  · exact inv.rederiveNode hb n hs

theorem orderOnReply (hb : Headblock) (n : NodeIx) (latching : List PairId) (old : State) (hs : P s) :
    P (orderOnReply hb n latching old s) := by
  unfold Machine.orderOnReply
  split
  case h_1 stage head members due h =>
    simp only
    split
    · exact inv.abort _ _ hs
    split
    · exact inv.abort _ _ hs
    split
    · exact inv.abort _ _ hs
    · refine inv.progress _ h ?_ hs
      rw [List.map_map]
      refine List.map_congr_left fun om _ => ?_
      simp only [Function.comp_apply]
      split
      · exact memberOnReply_member s _ om
      · rfl
  all_goals exact hs

theorem coilsOnReply (hb : Headblock) (n : NodeIx) (hs : P s) : P (coilsOnReply hb n s) :=
  inv.confirmedOff _ (inv.postAll _ (inv.checked _ hs))

theorem exchangeOutcome (hb : Headblock) (f : Flight) (image period : Byte) (outcome : FrameOutcome) (hs : P s) :
    P (exchangeOutcome hb f image period outcome s) := by
  unfold Machine.exchangeOutcome
  split
  · exact hs
  · have entered := fun new bodies => inv.postAll bodies (inv.updateBus hb (Bus.updateNode f.node new) hs)
    simp only
    split
    · exact inv.settingOnReply hb _ _ _ (inv.orderOnReply hb _ _ _ (inv.rederiveNode hb _
        (inv.coilsOnReply hb _ (entered _ _))))
    all_goals exact inv.linkChanged hb _ _ (entered _ _)

theorem diagOutcome (hb : Headblock) (f : Flight) (outcome : FrameOutcome) (hs : P s) :
    P (diagOutcome hb f outcome s) := by
  unfold Machine.diagOutcome
  split
  · exact hs
  · refine inv.linkChanged hb _ _ (inv.postAll _ ?_)
    have entered := fun new => inv.updateBus hb (Bus.updateNode f.node new) hs
    have handled : ∀ new, P (if f.orphan then Machine.updateBus hb (Bus.updateNode f.node new) s
        else transferOutcome hb outcome (Machine.updateBus hb (Bus.updateNode f.node new) s)) := by
      intro new
      split
      · exact entered new
      · exact inv.core (transferOutcome_sameCore hb outcome _) (entered new)
    split
    · exact inv.core (abortTransferOf_sameCore hb _ _) (handled _)
    · exact handled _

theorem onWindow (hb : Headblock) (judge : Flight → FrameOutcome) (hs : P s) : P (onWindow hb judge s) := by
  unfold Machine.onWindow
  split
  · exact hs
  split
  · exact hs
  · have free := inv.updateBus hb (fun b => { b with flight := none }) hs
    unfold takeOutcome
    simp only
    split
    · exact free
    split
    · exact inv.exchangeOutcome hb _ _ _ _ free
    · exact inv.identifyOutcome hb _ free
    · exact inv.diagOutcome hb _ _ free

theorem masterFrameEnd (hb : Headblock) (hs : P s) : P (masterFrameEnd hb s) := by
  unfold Machine.masterFrameEnd
  split
  · exact hs
  split
  · simp only
    split
    · exact inv.updateBus hb _ (inv.updateBus hb _ hs)
    all_goals exact inv.updateBus hb _ hs
  · exact hs

theorem holdOff (hb : Headblock) (overlap : Bool) (hs : P s) : P (holdOff hb overlap s) := by
  unfold Machine.holdOff
  split
  · exact hs
  split
  · exact hs
  all_goals exact inv.updateBus hb _ hs

/-! ### Requests, presses and the trip chain -/

theorem emptyFaultHeld (hs : P s) : P (emptyFaultHeld s) := by
  unfold Machine.emptyFaultHeld
  split
  · next h => exact inv.post _ (inv.emptied h hs)
  all_goals exact hs

theorem acceptSet (hb : Headblock) (target : Setting) (clear : s.trip.state = .clear) (off : s.setOpOn hb = false)
    (hs : P s) : P (acceptSet hb target s) := by
  have noOp : (s.setting.get hb).op = none := by simpa [State.setOpOn] using off
  unfold Machine.acceptSet
  split
  · exact inv.compose (inv.post _ (inv.updateSetting hb _ noOp.symm hs))
  split
  · exact inv.compose (inv.post _ (inv.updateSetting hb _ rfl hs))
  · exact inv.compose (inv.takeStep hb _ _ _ (.inl clear) (inv.startOp _ rfl (.inl clear) hs))

/-- A watch table that keeps its capacity and names no signal twice. -/
theorem setWatches (watches : List Watch) (fits : s.watches.length ≤ Config.watchCapacity →
    (s.watches.map Watch.signal).Nodup → watches.length ≤ Config.watchCapacity ∧ (watches.map Watch.signal).Nodup)
    (hs : P s) : P { s with watches := watches } :=
  inv.outside_of_capacity (s := s)
    (fun ⟨queue, notices, entries, distinct⟩ => ⟨queue, notices, fits entries distinct⟩) hs

theorem requestAct {t : State} (act : RequestAct s t) (hs : P s) : P t := by
  cases act with
  | nothing => exact hs
  | timing | authority => exact inv.outside hs
  | watchEdge signal e =>
    refine inv.setWatches _ (fun entries distinct => ⟨?_, ?_⟩) hs
    · simpa using entries
    · have same : Watch.signal ∘ (fun w : Watch => if w.signal = signal then { w with edge := e } else w) =
          Watch.signal := funext fun w => by simp only [Function.comp_apply]; split <;> rfl
      rw [List.map_map, same]
      exact distinct
  | watchAdd signal e new room =>
    refine inv.setWatches _ (fun _ distinct => ⟨?_, ?_⟩) hs
    · simpa using room
    · rw [List.map_append, List.nodup_append]
      exact ⟨distinct, by simp, by simpa using fun w hw => new w hw⟩
  | watchFilter keep =>
    refine inv.setWatches _ (fun entries distinct => ⟨?_, ?_⟩) hs
    · exact (List.length_filter_le _ _).trans entries
    · exact distinct.sublist (List.filter_sublist.map _)
  | mode m => exact inv.compose (inv.outside hs)
  | check head idle clear => exact inv.check head none (.inl ⟨idle, clear⟩) hs
  | propose head idle clear => exact inv.propose head idle clear hs
  | abandonProposed h => exact inv.endToIdle _ _ h hs
  | abandonActive => exact inv.abort _ _ hs
  | abandonHold members h => exact inv.postAll _ (inv.abandonHold (s := s) members _ h hs)
  | clearFaults named => exact inv.core (clearLatches_sameCore _ _) (inv.emptyFaultHeld hs)
  | retrip held => exact inv.retrip (by simp [held]) hs
  | resume held => exact inv.resume (by simp [held]) (by simp [held]) hs
  | bypassEnter hb => exact inv.post _ (inv.outside hs)
  | bypassExit => exact inv.leaveBypass _ hs
  | setSpreader hb target clear off => exact inv.acceptSet hb target clear off hs
  | profile hb p => exact inv.updateAttach hb _ hs
  | arm hb => exact inv.changeAttach hb _ _ (inv.core (clearLatches_sameCore _ _) hs)
  | attachment hb f => exact inv.changeAttach hb f _ hs
  | readDiag hb t => exact inv.updateBus hb _ hs

/-- A change of the link that keeps its receive queue within the capacity. -/
theorem setLink (link : Link) (queue : s.link.queue.length ≤ Config.receiveCapacity →
    link.queue.length ≤ Config.receiveCapacity) (hs : P s) : P { s with link := link } :=
  inv.outside_of_capacity (fun ⟨requests, rest⟩ => ⟨queue requests, rest⟩) hs

theorem takeRequest (hs : P s) : P (takeRequest s) := by
  unfold Machine.takeRequest
  split
  · exact inv.setLink _ id (inv.requestAct (.answerRequest _ _ s) hs)
  all_goals exact hs

theorem arrive (q : Request) (hs : P s) : P (arrive q s) := by
  unfold Machine.arrive
  split
  · exact inv.post _ hs
  split
  · next room =>
    refine inv.takeRequest (inv.setLink _ (fun _ => ?_) hs)
    rw [List.length_append]
    exact room
  · exact inv.post _ hs

theorem receiveByte (b : Byte) (hs : P s) : P (receiveByte b s) := by
  have heard := fun rx => inv.setLink { s.link with rx := rx, lastByte := s.time } id hs
  unfold Machine.receiveByte
  split
  · split; exacts [heard _, hs]
  · split; exacts [heard _, inv.post _ (heard _)]
  · split
    · exact heard _
    · unfold judgeFrame
      simp only
      split
      · split; exacts [inv.arrive _ (heard _), inv.post _ (heard _)]
      · exact inv.post _ (heard _)

theorem byteGap (hs : P s) : P (byteGap s) := by
  unfold Machine.byteGap
  split
  · exact hs
  all_goals exact inv.post _ (inv.setLink _ id (inv.advanceTo _ hs))

/-- The trip unit rewritten without its state and hold record. -/
theorem setTrip {u : TripUnit} (state : u.state = s.trip.state) (hold : u.hold = s.trip.hold) (hs : P s) :
    P { s with trip := u } := inv.core (.setTrip s state hold) hs

theorem chainRaw (closed : Bool) (hs : P s) : P (chainRaw closed s) := by
  unfold Machine.chainRaw
  split
  · exact hs
  · exact inv.setTrip rfl rfl hs

theorem chainRearm (hs : P s) : P (chainRearm s) := by
  unfold Machine.chainRearm
  split
  · exact hs
  split
  · exact inv.setTrip rfl rfl (inv.advanceTo _ hs)
  · exact hs

theorem tripEdge (hs : P s) : P (tripEdge s) := by
  unfold Machine.tripEdge
  split
  · exact hs
  split
  · have recognized : P (recognizeChain (Machine.advanceTo ‹Nat› s)) := inv.setTrip rfl rfl (inv.advanceTo _ hs)
    unfold tripByState
    split
    · next clear => exact inv.takeTrip clear recognized
    · unfold pendTrip
      split
      · exact recognized
      · exact inv.post _ (inv.setTrip rfl rfl recognized)
  · exact hs

theorem pressOrder (kind : OrderKind) (hs : P s) : P (pressOrder kind s) := by
  have press : P (match s.pressRefusal kind with
      | some reason => refusePress kind.button reason s
      | none => checkOrder ⟨kind, .cab, false⟩ none s) := by
    split
    · exact inv.post _ hs
    · next passed =>
      refine inv.check _ _ (.inl ?_) hs
      simp only [State.pressRefusal] at passed
      grind
  unfold Machine.pressOrder
  split
  case h_1 h => split; exacts [inv.post _ hs, inv.endToIdle _ _ h hs]
  all_goals exact press

theorem pressConfirm (hs : P s) : P (pressConfirm s) := by
  unfold Machine.pressConfirm
  split
  case h_1 h =>
    refine inv.check _ _ (.inr ?_) (inv.keeps (setConfirmed_keeps s _) hs)
    show s.order.stage = _
    rw [h, OrderRec.stage]
  all_goals exact inv.post _ hs

theorem cabDebounceEnd (input : CabInput) (hs : P s) : P (cabDebounceEnd input s) := by
  unfold Machine.cabDebounceEnd
  simp only
  split
  · exact hs
  · have settled : P (settleCab input (Machine.advanceTo ‹Nat› s)) :=
      inv.keeps (updateCab_keeps _ _ _) (inv.advanceTo _ hs)
    split
    · unfold handOnCab
      split
      · exact inv.pressOrder _ settled
      · exact inv.pressOrder _ settled
      · exact inv.pressConfirm settled
      · exact inv.leaveBypass _ settled
      all_goals exact settled
    · exact settled

/-! ### Times and starts -/

theorem memberDeadTime (m : Member) (hs : P s) : P (memberDeadTime m s) := by
  unfold Machine.memberDeadTime
  split
  case h_1 h =>
    split
    · refine inv.progress (s := Machine.advanceTo _ s) _ h ?_ (inv.advanceTo _ hs)
      rw [List.map_map]
      refine List.map_congr_left fun om _ => ?_
      simp only [Function.comp_apply]
      split <;> rfl
    · exact hs
  all_goals exact hs

theorem confirmLate (hs : P s) : P (confirmLate s) := by
  unfold Machine.confirmLate
  split
  case h_1 h => exact inv.endToIdle (s := Machine.advanceTo _ s) _ _ h (inv.advanceTo _ hs)
  all_goals exact hs

theorem turnLate (hs : P s) : P (turnLate s) := by
  unfold Machine.turnLate
  split
  · exact inv.abort _ _ (inv.advanceTo _ hs)
  all_goals exact hs

theorem stepDeadTime (hb : Headblock) (hs : P s) : P (stepDeadTime hb s) := by
  unfold Machine.stepDeadTime
  split
  · exact hs
  · next h =>
    split
    · exact inv.driveStep hb _ (.inr (by simp [State.setOpOn, h])) (inv.advanceTo _ hs)
    · exact hs

theorem setLate (hb : Headblock) (hs : P s) : P (setLate hb s) := by
  unfold Machine.setLate
  split
  · exact hs
  · exact inv.abortSetOp hb _ (inv.advanceTo _ hs)

theorem lostNodeOffTime (hb : Headblock) (n : NodeIx) (hs : P s) : P (lostNodeOffTime hb n s) := by
  unfold Machine.lostNodeOffTime
  split
  · exact hs
  · exact inv.confirmedOff _ (inv.advanceTo _ hs)

theorem start (kind : StartKind) (hs : P s) : P (start kind s) := by
  have powered : SameCore State.reset (powerOnState s) :=
    ⟨fun _ => rfl, fun _ => rfl, rfl, rfl, fun _ => rfl, rfl, rfl, fun _ => powerOnState_withinCapacity s⟩
  unfold Machine.start
  split
  · exact inv.postAll _ (inv.core powered inv.reset)
  · exact inv.postAll _ (inv.outside (inv.core powered inv.reset))
  · exact inv.postAll _ (inv.keeps (evalGroup_keeps _) (inv.compose (inv.warm hs)))

/-- What every command leaves: a state in which the property holds, brought to the end of the action. -/
theorem exec {c : Instr} {t : State} (h : exec c s = .next t) (hs : P s) : P t := by
  have ended : ∀ {old u : State}, P u → Host.Outcome.next (Machine.finish old u) = (.next t : Result) → P t := by
    rintro old u hu ⟨⟩
    exact inv.finish old hu
  cases hq : requestOf c with
  | some q =>
    rw [exec_request c q hq] at h
    exact ended (inv.arrive q hs) h
  | none =>
    cases c with
    | powerOn => exact ended (inv.start .powerOn hs) h
    | linkFrameReceived b | linkByteReceived b => exact ended (inv.receiveByte b hs) h
    | linkByteGap => exact ended (inv.byteGap hs) h
    | replySent =>
      simp only [Machine.exec, execReplySent] at h
      split at h
      · exact ended (inv.start _ hs) h
      · refine ended ?_ h
        unfold replySent
        split
        · refine inv.takeRequest (inv.setLink _ (fun within => ?_) hs)
          rw [List.length_drop]
          omega
        · exact hs
    | noticeSent =>
      refine ended (inv.outside_of_capacity noticeSent_withinCapacity hs ?_ ?_ ?_ ?_ ?_) h
      all_goals unfold noticeSent; split <;> rfl
    | tripChainRawChange closed => exact ended (inv.chainRaw closed hs) h
    | tripEdge => exact ended (inv.tripEdge hs) h
    | tripChainRearm => exact ended (inv.chainRearm hs) h
    | plugRawChange hb present =>
      refine ended ?_ h
      unfold plugRaw
      simp only
      split
      · exact hs
      · exact inv.updateAttach hb _ hs
    | plugInsertion hb => exact ended (inv.plugSettled hb true hs) h
    | plugRemoval hb => exact ended (inv.plugSettled hb false hs) h
    | powerUpDelayEnd hb => exact ended (inv.powerUpEnd hb hs) h
    | powerDownDelayEnd hb => exact ended (inv.powerDownEnd hb hs) h
    | masterFrameEnd hb => exact ended (inv.masterFrameEnd hb hs) h
    | holdOff hb overlap => exact ended (inv.holdOff hb overlap hs) h
    | exchReply hb | idReply hb | diagReply hb | replyWindowEnd hb | replyStall hb =>
      exact ended (inv.onWindow hb _ hs) h
    | nodeDue hb n =>
      refine ended ?_ h
      unfold nodeDue
      split
      · exact inv.advanceTo _ hs
      · exact hs
    | probeDue hb =>
      refine ended ?_ h
      unfold probeDue
      split
      · exact inv.advanceTo _ hs
      · exact hs
    | lastOnExpiry p coil => exact ended (inv.core (expireLastOn_sameCore p coil s) hs) h
    | lostNodeOffTime hb n => exact ended (inv.lostNodeOffTime hb n hs) h
    | memberDeadTimeEnd m => exact ended (inv.memberDeadTime m hs) h
    | confirmDeadline => exact ended (inv.confirmLate hs) h
    | turnDeadline => exact ended (inv.turnLate hs) h
    | stepDeadTimeEnd hb => exact ended (inv.stepDeadTime hb hs) h
    | setDeadline hb => exact ended (inv.setLate hb hs) h
    | cabRawChange input on =>
      refine ended ?_ h
      unfold cabRaw
      split
      · exact hs
      · exact inv.keeps (updateCab_keeps _ _ _) hs
    | cabDebounceEnd input => exact ended (inv.cabDebounceEnd input hs) h
    | flashClock =>
      exact ended (inv.outside hs) h
    | _ => cases hq

theorem step {t : State} (hs : P s) (h : step s = .next t) : P t := by
  unfold Machine.step at h
  split at h
  · cases h
    exact inv.outside hs
  · exact inv.exec h (inv.outside hs)

end CoreInvariant

end Sys2Proof.Machine
end

section
/-! SUPPORT. What the shared operations on orders, set operations and the trip unit leave of each part of the state. -/

namespace Sys2Proof.Machine

-- One theorem at a time: proofs that wait for one another hold a thread each.
set_option Elab.async false

/-! ## Claims -/

@[simp] theorem pair_claimOff (named : PairId → Bool) (s : State) (p : PairId) :
    (claimOff named s).pair p = if named p then { s.pair p with command := .bothOff } else s.pair p := by
  simp [claimOff]

@[simp] theorem pair_letGo (named : PairId → Bool) (s : State) (p : PairId) :
    (letGo named s).pair p =
      if named p then { s.pair p with command := .bothOff, offMark := false } else s.pair p := by
  simp [letGo]

@[simp] theorem pair_claimOn (named : PairId → Bool) (c : Side) (s : State) (p : PairId) :
    (claimOn named c s).pair p =
      if named p && s.driveAllowed p c then { s.pair p with command := .on c } else s.pair p := by
  simp [claimOn]

/-- Table 3-5, check 1: no drive claim is taken while a hold stands. -/
theorem driveAllowed_clear {s : State} {p : PairId} {c : Side} (h : s.driveAllowed p c = true) : s.trip.state = .clear := by
  simp only [State.driveAllowed, State.forceOff, Bool.and_eq_true, Bool.not_eq_true', bne_eq_false_iff_eq] at h
  exact h.1.1.1.1

/-- Table 3-5, check 2: a drive claim is taken on a pair that a running operation holds alone. -/
theorem holds_of_driveAllowed {s : State} {p : PairId} {c : Side} (h : s.driveAllowed p c = true) :
    s.holds p = true := by
  have drives : s.drives p = true := by
    simp only [State.driveAllowed, Bool.and_eq_true] at h
    exact h.1.1.1.2
  unfold State.drives at drives
  unfold State.holds
  split at drives
  · next body =>
    rw [if_pos body, State.setOpOn]
    cases op : (s.setting.get p.hb).op
    · simp [op] at drives
    · rfl
  · next body =>
    rw [if_neg body]
    rw [List.any_eq_true] at drives ⊢
    obtain ⟨om, mem, is⟩ := drives
    exact ⟨om, mem, (Bool.and_eq_true _ _ ▸ is).1⟩

/-! ## Orders that run and orders that do not -/

theorem orderPair_iff (s : State) (p : PairId) :
    s.orderPair p = true ↔ ∃ om ∈ s.order.activeMembers, om.member.pair = p := by
  simp [State.orderPair]

theorem holds_iff (s : State) (p : PairId) :
    s.holds p = true ↔ if p.isBody then ((s.setting.get p.hb).op).isSome = true
      else ∃ om ∈ s.order.activeMembers, om.member.pair = p := by
  unfold State.holds
  split <;> simp [State.setOpOn]

/-- An order runs exactly in TURNING and SETTLING. -/
theorem runs_eq_true_iff {o : OrderRec} :
    o.runs = true ↔ ∃ stage head members due, o = .active stage head members due := by
  cases o <;> simp [OrderRec.runs]

theorem activeMembers_of_not_runs {o : OrderRec} (h : o.runs = false) : o.activeMembers = [] := by
  cases o with
  | active => cases h
  | _ => rfl

theorem abortOrder_of_not_runs {s : State} (h : s.order.runs = false) (reason : EndReason)
    (failed : OrderMember → Bool) : abortOrder reason failed s = s := by
  unfold abortOrder
  split
  · next active => simp [active, OrderRec.runs] at h
  all_goals rfl

/-- With no order running a composition writes the member list and nothing else. -/
theorem compose_of_not_runs {s : State} (h : s.order.runs = false) :
    compose s = { s with group := { s.group with members := s.composed } } := by
  unfold compose
  split
  · next same => rw [same]
  · exact abortOrder_of_not_runs (s := { s with group := { s.group with members := s.composed } }) h _ _

theorem pair_compose_of_not_runs {s : State} (h : s.order.runs = false) (p : PairId) :
    (compose s).pair p = s.pair p := by
  rw [compose_of_not_runs h]
  rfl

theorem order_compose_of_not_runs {s : State} (h : s.order.runs = false) : (compose s).order = s.order := by
  rw [compose_of_not_runs h]

/-! ## The end of a set operation -/

theorem abortSetOp_none {s : State} {hb : Headblock} (h : (s.setting.get hb).op = none) (reason : SetReason) :
    abortSetOp hb reason s = s := by
  simp only [abortSetOp, h]

theorem abortSetOp_some {s : State} {hb : Headblock} {op : SetOp} (h : (s.setting.get hb).op = some op)
    (reason : SetReason) : abortSetOp hb reason s =
      compose (post (.setEnd hb reason op.target op.step.name none)
        (updateSetting hb (fun _ => ⟨none, 0, none⟩) (letGo (bodyPairOf hb) s))) := by
  simp only [abortSetOp, h]

/-- R101: the spreader's setting is UNSET after an abort of its set operation. -/
theorem setting_abortSetOp (s : State) (hb h : Headblock) (reason : SetReason) :
    (abortSetOp hb reason s).setting.get h =
      if h = hb ∧ (s.setting.get hb).op ≠ none then ⟨none, 0, none⟩ else s.setting.get h := by
  cases op : (s.setting.get hb).op with
  | none => simp [abortSetOp_none op]
  | some op' =>
    rw [abortSetOp_some op, (compose_keeps _).setting_eq, (post_keeps _ _).setting_eq, setting_updateSetting]
    simp [letGo, updatePairs]

section
variable {s : State} (h : s.order.runs = false) (hb : Headblock) (reason : SetReason)
include h

theorem order_abortSetOp_of_not_runs : (abortSetOp hb reason s).order = s.order := by
  cases op : (s.setting.get hb).op with
  | none => rw [abortSetOp_none op]
  | some op' => rw [abortSetOp_some op, order_compose_of_not_runs (by exact h)]; rfl

/-- R101: with no order running an abort of a set operation lets the body pairs go and no other. -/
theorem pair_abortSetOp_of_not_runs (p : PairId) : (abortSetOp hb reason s).pair p =
    if (s.setting.get hb).op ≠ none ∧ bodyPairOf hb p = true then
      { s.pair p with command := .bothOff, offMark := false } else s.pair p := by
  cases op : (s.setting.get hb).op with
  | none => simp [abortSetOp_none op]
  | some op' =>
    rw [abortSetOp_some op, pair_compose_of_not_runs (by exact h), (post_keeps _ _).pair_eq,
      (updateSetting_keeps _ _ _).pair_eq, pair_letGo]
    simp

end

/-! ## Bypass left -/

theorem orderBypassLeft_of_still {s : State} (runs : s.order.runs = false) (stage : s.order.stage ≠ .proposed) :
    orderBypassLeft s = s := by
  unfold orderBypassLeft
  split
  · next h => exact absurd (by rw [h, OrderRec.stage]) stage
  · next h => rw [h] at runs; cases runs
  all_goals rfl

/-- An order that is neither proposed nor running goes on as it was when bypass is left. -/
theorem leaveBypass_of_still {s : State} (runs : s.order.runs = false) (stage : s.order.stage ≠ .proposed)
    (cause : LeaveCause) : leaveBypass cause s = match s.bypass with
      | none => s
      | some hb => post (.bypassState false hb (some cause)) { s with bypass := none } := by
  cases on : s.bypass with
  | none => simp only [leaveBypass, on]
  | some hb => rw [leaveBypass_on on, orderBypassLeft_of_still (by exact runs) (by exact stage)]

/-! ## A trip edge in CLEAR -/

/-- R79, steps 1 to 4: force-off claimed, HOLDING entered with its hold record, the order cancelled or suspended. -/
def tripHolding (s : State) : State := tripOrder (enterHolding .trip s.holdAtTrip (claimForceOff s))

/-- R79, steps 5 and 6: the set operations aborted. -/
def tripOps (s : State) : State := abortSetOp .b .trip (abortSetOp .a .trip (tripHolding s))

theorem takeTrip_eq (s : State) :
    takeTrip s = reportIfEmpty (postGroup s (evalGroup (leaveBypass .trip (tripOps s)))) := rfl

/-- R79 step 2: what a trip edge makes of an order record. -/
def OrderRec.tripped : OrderRec → OrderRec
  | .proposed _ _ => .idle
  | .active _ head _ _ => .suspended head
  | .idle => .idle
  | .suspended head => .suspended head
  | .faultHeld head members reason => .faultHeld head members reason

theorem OrderRec.tripped_not_runs (o : OrderRec) : o.tripped.runs = false := by
  cases o <;> rfl

theorem OrderRec.tripped_stage (o : OrderRec) : o.tripped.stage ≠ .proposed := by
  cases o <;> simp [OrderRec.tripped, OrderRec.stage]

theorem tripOrder_order (s : State) : (tripOrder s).order = s.order.tripped := by
  unfold tripOrder
  split <;> next h => rw [h]; rfl

theorem tripOrder_pair (s : State) (p : PairId) : (tripOrder s).pair p =
    if s.orderPair p then { s.pair p with command := .bothOff, offMark := false } else s.pair p := by
  unfold tripOrder
  split
  case h_2 => exact pair_letGo _ s p
  all_goals next h => simp [State.orderPair, h, OrderRec.activeMembers, endToIdle] <;> rfl

theorem tripHolding_order (s : State) : (tripHolding s).order = s.order.tripped := tripOrder_order _

theorem tripHolding_not_runs (s : State) : (tripHolding s).order.runs = false := by
  rw [tripHolding_order, OrderRec.tripped_not_runs]

theorem tripHolding_pair (s : State) (p : PairId) : (tripHolding s).pair p =
    { s.pair p with command := .bothOff, offMark := (s.pair p).offMark && !s.orderPair p } := by
  have claimed : (enterHolding .trip s.holdAtTrip (claimForceOff s)).pair p = { s.pair p with command := .bothOff } := by
    rw [(enterHolding_keeps _ _ _).pair_eq]
    show (claimOff (fun _ => true) { s with awaitingOff := s.awaitingOffOf }).pair p = _
    rw [pair_claimOff, if_pos rfl]
    rfl
  rw [tripHolding, tripOrder_pair, claimed]
  show (if s.orderPair p = true then _ else _) = _
  cases s.orderPair p <;> simp

theorem tripOps_order (s : State) : (tripOps s).order = s.order.tripped := by
  have first : (abortSetOp .a .trip (tripHolding s)).order = s.order.tripped := by
    rw [order_abortSetOp_of_not_runs (tripHolding_not_runs s), tripHolding_order]
  rw [tripOps, order_abortSetOp_of_not_runs (by rw [first, OrderRec.tripped_not_runs]), first]

theorem tripHolding_keeps (s : State) :
    keeps [.trip, .pairs, .awaitingOff, .order, .notices] s (tripHolding s) :=
  (((claimForceOff_keeps s).mono (by decide)).trans ((enterHolding_keeps _ _ _).mono (by decide))).trans
    ((tripOrder_keeps _).mono (by decide))

theorem tripOps_setting (s : State) (hb : Headblock) : (tripOps s).setting.get hb =
    if (s.setting.get hb).op = none then s.setting.get hb else ⟨none, 0, none⟩ := by
  simp only [tripOps, setting_abortSetOp, (tripHolding_keeps s).setting_eq]
  cases hb <;> simp [ite_not]

/-- The pairs of one spreader's body node. -/
theorem bodyPairOf_iff (hb : Headblock) (p : PairId) : bodyPairOf hb p = true ↔ p.hb = hb ∧ 8 ≤ p.i.val := by
  simp [bodyPairOf, PairId.isBody]

/-- R79: every command is off, and the off marks of the order's pairs and of the set operations' pairs are cleared. -/
theorem tripOps_pair (s : State) (p : PairId) : (tripOps s).pair p =
    { s.pair p with
      command := .bothOff
      offMark := (s.pair p).offMark &&
        !decide (s.orderPair p = true ∨ 8 ≤ p.i.val ∧ (s.setting.get p.hb).op ≠ none) } := by
  have runs : (abortSetOp .a .trip (tripHolding s)).order.runs = false := by
    rw [order_abortSetOp_of_not_runs (tripHolding_not_runs s), tripHolding_not_runs]
  rw [tripOps, pair_abortSetOp_of_not_runs runs, pair_abortSetOp_of_not_runs (tripHolding_not_runs s),
    tripHolding_pair, setting_abortSetOp, (tripHolding_keeps s).setting_eq]
  simp only [bodyPairOf_iff]
  obtain ⟨hb, i⟩ := p
  cases hb <;> cases s.orderPair _ <;> cases (s.pair _).offMark <;> simp <;> grind

theorem leaveBypass_tripOps (s : State) : leaveBypass .trip (tripOps s) = match s.bypass with
    | none => tripOps s
    | some hb => post (.bypassState false hb (some .trip)) { tripOps s with bypass := none } := by
  have bypass : (tripOps s).bypass = s.bypass := by
    rw [tripOps, (abortSetOp_keeps _ _ _).bypass_eq, (abortSetOp_keeps _ _ _).bypass_eq, (tripHolding_keeps s).bypass_eq]
  rw [leaveBypass_of_still (by rw [tripOps_order, OrderRec.tripped_not_runs])
    (by rw [tripOps_order]; exact OrderRec.tripped_stage _), bypass]

/-- Leaving bypass, the group and the report leave the pairs, the orders and the set operations of a trip edge. -/
theorem takeTrip_after (s : State) :
    keeps [.trip, .bypass, .groupState, .notices] (tripOps s) (takeTrip s) := by
  have left : keeps [.trip, .bypass, .groupState, .notices] (tripOps s) (leaveBypass .trip (tripOps s)) := by
    rw [leaveBypass_tripOps]
    split
    · exact keeps.refl _ _
    · intro f hf; cases f <;> simp_all [Field.same, State.node, post]
  exact ((left.trans ((evalGroup_keeps _).mono (by decide))).trans ((postGroup_keeps _ s).mono (by decide))).trans
    ((reportIfEmpty_keeps _).mono (by decide))

theorem takeTrip_order (s : State) : (takeTrip s).order = s.order.tripped := by
  rw [(takeTrip_after s).order_eq, tripOps_order]

theorem takeTrip_setting (s : State) (hb : Headblock) : (takeTrip s).setting.get hb =
    if (s.setting.get hb).op = none then s.setting.get hb else ⟨none, 0, none⟩ := by
  rw [(takeTrip_after s).setting_eq, tripOps_setting]

theorem takeTrip_pair (s : State) (p : PairId) : (takeTrip s).pair p =
    { s.pair p with
      command := .bothOff
      offMark := (s.pair p).offMark &&
        !decide (s.orderPair p = true ∨ 8 ≤ p.i.val ∧ (s.setting.get p.hb).op ≠ none) } := by
  rw [(takeTrip_after s).pair_eq, tripOps_pair]

theorem tripOps_awaitingOff (s : State) : (tripOps s).awaitingOff = s.awaitingOffOf := by
  rw [tripOps, (abortSetOp_keeps _ _ _).awaitingOff_eq, (abortSetOp_keeps _ _ _).awaitingOff_eq, tripHolding,
    (tripOrder_keeps _).awaitingOff_eq, (enterHolding_keeps _ _ _).awaitingOff_eq]
  rfl

theorem tripOps_trip (s : State) :
    (tripOps s).trip = { s.trip with state := .holding .trip, pending := false, hold := s.holdAtTrip } := by
  rw [tripOps, (abortSetOp_keeps _ _ _).trip_eq, (abortSetOp_keeps _ _ _).trip_eq, tripHolding,
    (tripOrder_keeps _).trip_eq]
  rfl

theorem takeTrip_awaitingOff (s : State) : (takeTrip s).awaitingOff = s.awaitingOffOf := by
  rw [(takeTrip_after s).awaitingOff_eq, tripOps_awaitingOff]

/-! ## The report that every coil is confirmed off (R83) -/

/-- R83: what the report makes of the trip unit. -/
def TripState.confirmed : TripState → TripState
  | .holding cause => .held cause
  | .clear => .clear
  | .held cause => .held cause

theorem reportConfirmedOff_trip (s : State) :
    (reportConfirmedOff s).trip = { s.trip with state := s.trip.state.confirmed } := by
  unfold reportConfirmedOff
  split
  case h_1 cause h => rw [h]; rfl
  all_goals next h => rw [h, TripState.confirmed, ← h]

theorem reportIfEmpty_trip (s : State) : (reportIfEmpty s).trip =
    { s.trip with state := if s.awaitingOff = [] then s.trip.state.confirmed else s.trip.state } := by
  unfold reportIfEmpty
  cases s.awaitingOff with
  | nil => exact reportConfirmedOff_trip s
  | cons p rest => rfl

theorem takeTrip_trip (s : State) : (takeTrip s).trip =
    { s.trip with
      state := if s.awaitingOffOf = [] then .held .trip else .holding .trip
      pending := false
      hold := s.holdAtTrip } := by
  have before : keeps [.bypass, .order, .pairs, .groupState, .notices] (tripOps s)
      (postGroup s (evalGroup (leaveBypass .trip (tripOps s)))) :=
    (((leaveBypass_keeps _ _).mono (by decide)).trans ((evalGroup_keeps _).mono (by decide))).trans
      ((postGroup_keeps _ s).mono (by decide))
  rw [takeTrip_eq, reportIfEmpty_trip, before.trip_eq, before.awaitingOff_eq, tripOps_awaitingOff, tripOps_trip]
  rfl

theorem dropAwaiting_awaitingOff (gone : PairId → Bool) (s : State) :
    (dropAwaiting gone s).awaitingOff = s.awaitingOff.filter fun p => !gone p := by
  unfold dropAwaiting
  simp only
  split
  · rw [(reportConfirmedOff_keeps _).awaitingOff_eq]
  · rfl

theorem dropAwaiting_trip (gone : PairId → Bool) (s : State) : (dropAwaiting gone s).trip =
    { s.trip with
      state := if s.awaitingOff ≠ [] ∧ (s.awaitingOff.filter fun p => !gone p) = [] then s.trip.state.confirmed
        else s.trip.state } := by
  unfold dropAwaiting
  simp only [Bool.and_eq_true, Bool.not_eq_true', List.isEmpty_eq_false_iff, List.isEmpty_iff, ne_eq]
  split
  · next h => rw [reportConfirmedOff_trip, if_pos ⟨h.2, h.1⟩]
  · next h => rw [if_neg fun k => h ⟨k.2, k.1⟩]

end Sys2Proof.Machine
end

section
/-! SUPPORT. The invariants of the orders, the coils, the set operations and the trip unit, and their statements: each is
a property of the core that every shared operation keeps. -/

namespace Sys2Proof.Machine

-- One theorem at a time: proofs that wait for one another hold a thread each.
set_option Elab.async false

/-! ## What the operations of the hold leave -/

theorem retrip_pair (s : State) (p : PairId) : (retrip s).pair p = { s.pair p with command := .bothOff } := by
  have after : keeps [.trip, .notices] (claimForceOff s) (retrip s) :=
    ((enterHolding_keeps _ _ _).mono (by decide)).trans ((reportIfEmpty_keeps _).mono (by decide))
  rw [after.pair_eq]
  show (claimOff (fun _ => true) { s with awaitingOff := s.awaitingOffOf }).pair p = _
  rw [pair_claimOff, if_pos rfl]
  rfl

theorem retrip_awaitingOff (s : State) : (retrip s).awaitingOff = s.awaitingOffOf := by
  rw [retrip, (reportIfEmpty_keeps _).awaitingOff_eq]
  rfl

theorem retrip_trip (s : State) : (retrip s).trip =
    { s.trip with state := if s.awaitingOffOf = [] then .held .trip else .holding .trip, pending := false } := by
  rw [retrip, reportIfEmpty_trip]
  rfl

theorem resumeOrder_tripState (s : State) : (resumeOrder s).trip.state = s.trip.state := by
  unfold resumeOrder
  split
  · rfl
  · rw [(checkOrder_keeps _ _ _).trip_eq]

@[simp] theorem OrderRec.stage_idle : OrderRec.idle.stage = .idle := rfl

/-! ## No coil on and nothing that runs while a hold stands (O5) -/

theorem HoldSafe.not_runs {s : State} (h : HoldSafe s) (hold : s.trip.state ≠ .clear) : s.order.runs = false := by
  obtain ⟨-, order, -⟩ := h hold
  by_contra runs
  rw [Bool.not_eq_false, runs_iff] at runs
  rcases order with h | h | h <;> simp [h] at runs

theorem HoldSafe.not_proposed {s : State} (h : HoldSafe s) (hold : s.trip.state ≠ .clear) : s.order.stage ≠ .proposed := by
  obtain ⟨-, order, -⟩ := h hold
  rcases order with h | h | h <;> simp [h]

theorem HoldSafe.no_op {s : State} (h : HoldSafe s) (hold : s.trip.state ≠ .clear) (hb : Headblock) :
    (s.setting.get hb).op = none := (h hold).2.2 hb

/-- A change that leaves no hold standing is safe. -/
theorem holdSafe_of_clear {t : State} (h : t.trip.state = .clear) : HoldSafe t := fun hold => absurd h hold

/-- While a hold stands before, a change that turns no coil on, leaves the order record and starts no set operation is
safe. -/
theorem HoldSafe.of_off {s t : State} (h : HoldSafe s) (hold : t.trip.state ≠ .clear → s.trip.state ≠ .clear)
    (off : s.trip.state ≠ .clear → ∀ p, (s.pair p).command = .bothOff → (t.pair p).command = .bothOff)
    (order : t.order = s.order) (op : ∀ hb, (s.setting.get hb).op = none → (t.setting.get hb).op = none) :
    HoldSafe t := fun stands =>
  have ⟨coils, orders, ops⟩ := h (hold stands)
  ⟨fun p => off (hold stands) p (coils p), order ▸ orders, fun hb => op hb (ops hb)⟩

theorem TripState.confirmed_clear {t : TripState} : t.confirmed = .clear ↔ t = .clear := by
  cases t <;> simp [TripState.confirmed]

theorem abortOrder_holdSafe {s : State} (reason : EndReason) (failed : OrderMember → Bool) (h : HoldSafe s) :
    HoldSafe (abortOrder reason failed s) := by
  by_cases clear : s.trip.state = .clear
  · exact holdSafe_of_clear (by rw [(abortOrder_keeps s _ _).trip_eq, clear])
  · rw [abortOrder_of_not_runs (h.not_runs clear)]
    exact h

theorem takeTrip_holdSafe (s : State) : HoldSafe (takeTrip s) := fun _ => by
  refine ⟨fun p => by rw [takeTrip_pair], ?_, fun hb => ?_⟩
  · rw [takeTrip_order]
    cases s.order <;> simp [OrderRec.tripped, OrderRec.stage]
  · rw [takeTrip_setting]
    split
    · assumption
    · rfl

theorem holdSafe_coreInvariant : CoreInvariant HoldSafe where
  core same h := h.of_off (by rw [same.tripState]; exact id) (fun _ p off => (same.command p).trans off) same.order
    fun hb none => (same.op hb).trans none
  claimOn named coil h := h.of_off id (fun hold p off => by
      rw [pair_claimOn, if_neg fun claimed => hold (driveAllowed_clear (Bool.and_eq_true _ _ ▸ claimed).2), off])
    rfl fun _ => id
  claimOff named h := h.of_off id (fun _ p off => by rw [pair_claimOff]; split <;> simp [off]) rfl fun _ => id
  checked served h := h.of_off id (fun _ p off => by rw [pair_updatePairs]; split <;> simp [State.checkedPair, off]) rfl
    fun _ => id
  abort := abortOrder_holdSafe
  endProposed _ h hold := ⟨(h hold).1, .inl rfl, (h hold).2.2⟩
  emptied _ h hold := ⟨(h hold).1, .inl rfl, (h hold).2.2⟩
  progress new active _ h := holdSafe_of_clear (by
    rw [(setProgress_keeps _ new).trip_eq]
    by_contra hold
    simpa [active, OrderRec.runs] using h.not_runs hold)
  propose head _ clear _ := holdSafe_of_clear clear
  check head hold may h := holdSafe_of_clear (by
    rw [(checkOrder_keeps _ head hold).trip_eq]
    by_contra stands
    exact may.elim (fun clear => stands clear.2) (h.not_proposed stands))
  abandonHold members reason _ h hold := ⟨(h hold).1, .inr (.inr rfl), (h hold).2.2⟩
  takeTrip _ _ := takeTrip_holdSafe _
  retrip hold h := h.of_off (fun _ => hold) (fun _ p _ => by rw [retrip_pair])
    (by rw [(retrip_keeps _).order_eq]) fun hb none => by rw [(retrip_keeps _).setting_eq, none]
  resume _ _ _ := holdSafe_of_clear (by rw [resumeOrder_tripState]; rfl)
  confirmedOff gone h := h.of_off
    (by rw [dropAwaiting_trip]; simp only; split <;> simp [TripState.confirmed_clear])
    (fun _ p off => by rw [(dropAwaiting_keeps _ gone).pair_eq, off]) (by rw [(dropAwaiting_keeps _ gone).order_eq])
    fun hb none => by rw [(dropAwaiting_keeps _ gone).setting_eq, none]
  endOp hb setting h := h.of_off id
    (fun _ p off => by rw [(updateSetting_keeps _ _ _).pair_eq, pair_letGo]; split <;> simp [off]) rfl
    fun h none => by rw [setting_updateSetting]; split <;> simp [none, letGo, updatePairs]
  startOp u _ may h hold := by
    rcases may with clear | on
    · exact absurd clear hold
    · simp [State.setOpOn, h.no_op hold] at on
  reset _ := ⟨fun p => by simp [State.reset, State.pair, Pair.reset], .inl rfl, fun hb => by
    simp [State.reset, SettingUnit.reset]⟩
  warm _ _ := ⟨fun p => by simp [warmState, State.pair, Pair.warm], .inl rfl, fun hb => by
    simp [warmState, SettingUnit.warm]⟩

/-- Settles O5: HoldSafe is a property of the core that every shared operation keeps. -/
theorem stepKeepsHoldSafe : Obligations.StepKeepsHoldSafe := fun _ _ h stepped => holdSafe_coreInvariant.step h stepped

/-! ## A coil on or an off mark only where an operation holds the pair (O6) -/

theorem coilsHeld_iff (s : State) : CoilsHeld s ↔
    ∀ p, (s.pair p).command ≠ .bothOff ∨ (s.pair p).offMark = true → s.holds p = true := by
  refine forall_congr' fun p => imp_congr_right fun _ => ?_
  rw [holds_iff]
  cases p.isBody <;> simp

/-- A change that commands coils on and sets off marks only where the pairs are held, and lets no pair go that is on or
marked, keeps the coils held. -/
theorem CoilsHeld.of_holds {s t : State} (h : CoilsHeld s)
    (marks : ∀ p, (t.pair p).command ≠ .bothOff ∨ (t.pair p).offMark = true →
      (s.pair p).command ≠ .bothOff ∨ (s.pair p).offMark = true ∨ s.holds p = true)
    (holds : ∀ p, s.holds p = true → (t.pair p).command ≠ .bothOff ∨ (t.pair p).offMark = true → t.holds p = true) :
    CoilsHeld t := by
  rw [coilsHeld_iff] at h ⊢
  intro p marked
  refine holds p ?_ marked
  rcases marks p marked with on | mark | held
  · exact h p (.inl on)
  · exact h p (.inr mark)
  · exact held

theorem holds_congr {s t : State} (order : t.order.activeMembers.map OrderMember.member =
      s.order.activeMembers.map OrderMember.member)
    (op : ∀ hb, (t.setting.get hb).op.isSome = (s.setting.get hb).op.isSome) (p : PairId) : t.holds p = s.holds p := by
  have members : ∀ l : List OrderMember, (l.any fun om => om.member.pair == p) =
      (l.map OrderMember.member).any fun m => m.pair == p := fun l => by simp [List.any_map, Function.comp_def]
  simp only [State.holds, State.setOpOn, op, members, order]

/-- While the same pairs are held, a change that turns on and marks held pairs alone keeps the coils held. -/
theorem CoilsHeld.of_same {s t : State} (h : CoilsHeld s)
    (marks : ∀ p, (t.pair p).command ≠ .bothOff ∨ (t.pair p).offMark = true →
      (s.pair p).command ≠ .bothOff ∨ (s.pair p).offMark = true ∨ s.holds p = true)
    (order : t.order.activeMembers.map OrderMember.member = s.order.activeMembers.map OrderMember.member)
    (op : ∀ hb, (t.setting.get hb).op.isSome = (s.setting.get hb).op.isSome) : CoilsHeld t :=
  h.of_holds marks fun p held _ => by rw [holds_congr order op, held]

theorem SameCore.coilsHeld {s t : State} (same : SameCore s t) (h : CoilsHeld s) : CoilsHeld t :=
  h.of_same
    (fun p marked => by
      rw [same.command, same.offMark] at marked
      exact marked.elim .inl fun mark => .inr (.inl mark))
    (by rw [same.order]) fun hb => by rw [same.op]

/-- An order that runs ends with its pairs let go. -/
theorem CoilsHeld.of_letGo {s t : State} (h : CoilsHeld s) (pairs : ∀ p, t.pair p = (letGo s.orderPair s).pair p)
    (op : ∀ hb, (t.setting.get hb).op = (s.setting.get hb).op) : CoilsHeld t := by
  have free : ∀ p, (t.pair p).command ≠ .bothOff ∨ (t.pair p).offMark = true →
      s.orderPair p = false ∧ t.pair p = s.pair p := by
    intro p marked
    rw [pairs, pair_letGo] at marked ⊢
    cases orderPair : s.orderPair p
    · simp
    · simp [orderPair] at marked
  refine h.of_holds (fun p marked => ?_) fun p held marked => ?_
  · rw [(free p marked).2] at marked
    exact marked.elim .inl fun mark => .inr (.inl mark)
  · have notMember := (free p marked).1
    unfold State.orderPair at notMember
    unfold State.holds State.setOpOn at held ⊢
    rw [op]
    split at held
    · next body => rw [if_pos body]; exact held
    · rw [notMember] at held
      cases held

theorem abortOrder_coilsHeld {s : State} (reason : EndReason) (failed : OrderMember → Bool) (h : CoilsHeld s) :
    CoilsHeld (abortOrder reason failed s) := by
  unfold abortOrder
  split
  · exact h.of_letGo (fun p => (enterFaultHeld_keeps _ _ _ _).pair_eq p |>.trans rfl) fun hb => rfl
  all_goals exact h

/-- With no order running a new order record of any kind leaves the body pairs held that were. -/
theorem CoilsHeld.of_not_runs {s t : State} (h : CoilsHeld s) (runs : s.order.runs = false)
    (marks : ∀ p, (t.pair p).command ≠ .bothOff ∨ (t.pair p).offMark = true →
      (s.pair p).command ≠ .bothOff ∨ (s.pair p).offMark = true)
    (op : ∀ hb, (t.setting.get hb).op = (s.setting.get hb).op) : CoilsHeld t := by
  refine h.of_holds (fun p marked => (marks p marked).elim .inl fun mark => .inr (.inl mark)) fun p held _ => ?_
  unfold State.holds State.setOpOn at held ⊢
  rw [activeMembers_of_not_runs runs] at held
  rw [op]
  split at held
  · next body => rw [if_pos body]; exact held
  · cases held

theorem checkOrder_coilsHeld {s : State} (head : OrderHead) (hold : Option (List Member))
    (runs : s.order.runs = false) (h : CoilsHeld s) : CoilsHeld (checkOrder head hold s) := by
  have kept := checkOrder_keeps s head hold
  refine h.of_not_runs runs (fun p marked => ?_) fun hb => by rw [kept.setting_eq]
  have off : (checkOrder head hold s).pair p = s.pair p ∨
      (checkOrder head hold s).pair p = { s.pair p with command := .bothOff } := by
    unfold checkOrder
    simp only
    split
    · unfold beginTurning
      simp only
      rw [(postAll_keeps _ _).pair_eq, pair_claimOff]
      split
      · exact .inr rfl
      · exact .inl rfl
    split
    · exact .inl rfl
    · exact .inl rfl
  rcases off with off | off <;> rw [off] at marked
  · exact marked
  · exact .inr (marked.resolve_left fun on => on rfl)

theorem setProgress_coilsHeld {s : State} {stage : ActiveStage} {head : OrderHead} {old : List OrderMember} {due : Nat}
    (new : List OrderMember) (active : s.order = .active stage head old due)
    (members : new.map OrderMember.member = old.map OrderMember.member) (h : CoilsHeld s) :
    CoilsHeld (setProgress new s) := by
  have progressed : CoilsHeld { s with order := .active (turningStage new) head new due } :=
    h.of_same (fun p marked => marked.elim .inl fun mark => .inr (.inl mark))
      (by rw [active]; exact members) fun hb => rfl
  have claimed : ∀ stops starts coil, CoilsHeld (claimOn starts coil
      (claimOff stops { s with order := .active (turningStage new) head new due })) := by
    intro stops starts coil
    refine CoilsHeld.of_same (s := claimOff stops { s with order := .active (turningStage new) head new due }) ?_
      (fun p marked => ?_) rfl fun hb => rfl
    · refine progressed.of_same (fun p marked => ?_) rfl fun hb => rfl
      rw [pair_claimOff] at marked
      split at marked
      · exact .inr (.inl (marked.resolve_left fun on => on rfl))
      · exact marked.elim .inl fun mark => .inr (.inl mark)
    · rw [pair_claimOn] at marked
      split at marked
      · next taken => exact .inr (.inr (holds_of_driveAllowed (Bool.and_eq_true _ _ ▸ taken).2))
      · exact marked.elim .inl fun mark => .inr (.inl mark)
  have ended : ∀ {u}, CoilsHeld u → CoilsHeld (endToIdle head .done new (letGo u.orderPair u)) := fun hu =>
    hu.of_letGo (fun p => by rw [(endToIdle_keeps _ _ _ _).pair_eq]) fun hb => by
      rw [(endToIdle_keeps _ _ _ _).setting_eq, (letGo_keeps _ _).setting_eq]
  unfold setProgress
  simp only [active]
  split
  · exact ended (claimed _ _ _)
  split
  · exact claimed _ _ _
  · exact (post_sameCore _ _).coilsHeld (claimed _ _ _)

/-- A state with no coil on and no off mark. -/
theorem coilsHeld_of_unmarked {t : State} (h : ∀ p, (t.pair p).command = .bothOff ∧ (t.pair p).offMark = false) :
    CoilsHeld t := fun p marked => by simp [h p] at marked

theorem takeTrip_coilsHeld {s : State} (h : CoilsHeld s) : CoilsHeld (takeTrip s) := by
  refine coilsHeld_of_unmarked fun p => ⟨by rw [takeTrip_pair], ?_⟩
  rw [takeTrip_pair]
  by_contra mark
  rw [Bool.not_eq_false, Bool.and_eq_true, Bool.not_eq_true', decide_eq_false_iff_not, not_or] at mark
  obtain ⟨mark, notMember, notBody⟩ := mark
  obtain ⟨body, member⟩ := h p (.inr mark)
  cases is : p.isBody
  · exact notMember ((orderPair_iff s p).2 (member is))
  · exact notBody ⟨by simpa [PairId.isBody] using is, Option.isSome_iff_ne_none.1 (body is)⟩

/-- The invariant of the coils is kept together with that of the hold, which says that no order runs when RESUME takes one
up again. -/
theorem coilsHeld_coreInvariant : CoreInvariant fun s => HoldSafe s ∧ CoilsHeld s where
  core same h := ⟨holdSafe_coreInvariant.core same h.1, same.coilsHeld h.2⟩
  claimOn named coil h := ⟨holdSafe_coreInvariant.claimOn named coil h.1, h.2.of_same (fun p marked => by
      rw [pair_claimOn] at marked
      split at marked
      · next taken => exact .inr (.inr (holds_of_driveAllowed (Bool.and_eq_true _ _ ▸ taken).2))
      · exact marked.elim .inl fun mark => .inr (.inl mark)) rfl fun _ => rfl⟩
  claimOff named h := ⟨holdSafe_coreInvariant.claimOff named h.1, h.2.of_same (fun p marked => by
      rw [pair_claimOff] at marked
      split at marked
      · exact .inr (.inl (marked.resolve_left fun on => on rfl))
      · exact marked.elim .inl fun mark => .inr (.inl mark)) rfl fun _ => rfl⟩
  checked served h := ⟨holdSafe_coreInvariant.checked served h.1, h.2.of_same (fun p marked => by
      rw [pair_updatePairs] at marked
      split at marked
      · simp only [State.checkedPair, Bool.or_eq_true, Bool.and_eq_true] at marked
        exact marked.elim .inl fun mark => .inr (mark.elim .inl fun seen => .inr seen.2)
      · exact marked.elim .inl fun mark => .inr (.inl mark)) rfl fun _ => rfl⟩
  abort reason failed h := ⟨abortOrder_holdSafe reason failed h.1, abortOrder_coilsHeld reason failed h.2⟩
  endProposed proposed h := ⟨holdSafe_coreInvariant.endProposed proposed h.1,
    h.2.of_not_runs (by rw [proposed]; rfl) (fun _ => id) fun _ => rfl⟩
  emptied held h := ⟨holdSafe_coreInvariant.emptied held h.1,
    h.2.of_not_runs (by rw [held]; rfl) (fun _ => id) fun _ => rfl⟩
  progress new active members h := ⟨holdSafe_coreInvariant.progress new active members h.1,
    setProgress_coilsHeld new active members h.2⟩
  propose head idle clear h := ⟨holdSafe_coreInvariant.propose head idle clear h.1,
    h.2.of_not_runs (by rw [idle]; rfl) (fun _ => id) fun _ => rfl⟩
  check head hold may h := by
    refine ⟨holdSafe_coreInvariant.check head hold may h.1, checkOrder_coilsHeld head hold ?_ h.2⟩
    by_contra runs
    rw [Bool.not_eq_false, runs_iff] at runs
    rcases may with ⟨idle, -⟩ | proposed
    · simp [idle] at runs
    · simp [proposed] at runs
  abandonHold members reason suspended h := ⟨holdSafe_coreInvariant.abandonHold members reason suspended h.1,
    h.2.of_not_runs (by rw [suspended]; rfl) (fun _ => id) fun _ => rfl⟩
  takeTrip _ h := ⟨takeTrip_holdSafe _, takeTrip_coilsHeld h.2⟩
  retrip hold h := ⟨holdSafe_coreInvariant.retrip hold h.1, h.2.of_same (fun p marked => by
      rw [retrip_pair] at marked
      exact .inr (.inl (marked.resolve_left fun on => on rfl)))
    (by rw [(retrip_keeps _).order_eq]) fun hb => by rw [(retrip_keeps _).setting_eq]⟩
  resume {s} hold notHolding h := by
    refine ⟨holdSafe_coreInvariant.resume hold notHolding h.1, ?_⟩
    have released : CoilsHeld (releaseHold s) :=
      h.2.of_same (fun p marked => marked.elim .inl fun mark => .inr (.inl mark)) rfl fun _ => rfl
    unfold resumeOrder
    split
    · exact released
    · exact checkOrder_coilsHeld _ _ (h.1.not_runs hold)
        (released.of_same (fun p marked => marked.elim .inl fun mark => .inr (.inl mark)) rfl fun _ => rfl)
  confirmedOff gone h := ⟨holdSafe_coreInvariant.confirmedOff gone h.1, h.2.of_same
    (fun p marked => by
      rw [(dropAwaiting_keeps _ gone).pair_eq] at marked
      exact marked.elim .inl fun mark => .inr (.inl mark))
    (by rw [(dropAwaiting_keeps _ gone).order_eq]) fun hb => by rw [(dropAwaiting_keeps _ gone).setting_eq]⟩
  endOp {s} hb setting h := by
    refine ⟨holdSafe_coreInvariant.endOp hb setting h.1, h.2.of_holds (fun p marked => ?_) fun p held marked => ?_⟩
      <;> rw [(updateSetting_keeps _ _ _).pair_eq, pair_letGo] at marked
    · split at marked
      · simp at marked
      · exact marked.elim .inl fun mark => .inr (.inl mark)
    · cases gone : bodyPairOf hb p
      · rw [holds_iff] at held ⊢
        cases body : p.isBody
        · rw [body] at held
          exact held
        · have other : p.hb ≠ hb := by
            rintro rfl
            simp [bodyPairOf, body] at gone
          rw [body] at held
          rw [if_pos rfl, setting_updateSetting, if_neg other]
          exact held
      · simp [gone] at marked
  startOp {s hb} u runs may h := by
    refine ⟨holdSafe_coreInvariant.startOp u runs may h.1,
      h.2.of_holds (fun p marked => marked.elim .inl fun mark => .inr (.inl mark)) fun p held _ => ?_⟩
    rw [holds_iff] at held ⊢
    split at held
    · next body =>
      rw [if_pos body, setting_updateSetting]
      split
      · exact runs
      · exact held
    · next member =>
      rw [if_neg member]
      exact held
  reset := ⟨holdSafe_coreInvariant.reset, coilsHeld_of_unmarked fun p => by
    simp [State.reset, State.pair, Pair.reset]⟩
  warm h := ⟨holdSafe_coreInvariant.warm h.1, coilsHeld_of_unmarked fun p => by
    simp [warmState, State.pair, Pair.warm]⟩

/-- Settles O6: together with HoldSafe, CoilsHeld is a property of the core that every shared operation keeps. -/
theorem stepKeepsCoilsHeld : Obligations.StepKeepsCoilsHeld := fun _ _ safe held stepped =>
  (coilsHeld_coreInvariant.step ⟨safe, held⟩ stepped).2

/-! ## Pairs awaited off exactly while HOLDING (O7) -/

theorem AwaitsInHolding.of_same {s t : State} (h : AwaitsInHolding s) (state : t.trip.state = s.trip.state)
    (awaiting : t.awaitingOff = s.awaitingOff) : AwaitsInHolding t := by
  unfold AwaitsInHolding
  rw [state, awaiting]
  exact h

theorem keeps.awaitsInHolding {l : List Field} {s t : State} (k : keeps l s t) (h : AwaitsInHolding s)
    (trip : Field.trip ∉ l := by decide) (awaiting : Field.awaitingOff ∉ l := by decide) : AwaitsInHolding t :=
  h.of_same (by rw [k.trip_eq trip]) (k.awaitingOff_eq awaiting)

/-- A hold entered with the pairs that await, and reported at once when there are none. -/
theorem awaitsInHolding_of_entered {t : State} {awaiting : List PairId} {cause : HoldCause}
    (state : t.trip.state = if awaiting = [] then .held cause else .holding cause) (set : t.awaitingOff = awaiting) :
    AwaitsInHolding t := by
  unfold AwaitsInHolding
  rw [state, set]
  by_cases none : awaiting = [] <;> simp [none]

theorem dropAwaiting_awaitsInHolding {s : State} (gone : PairId → Bool) (h : AwaitsInHolding s) :
    AwaitsInHolding (dropAwaiting gone s) := by
  unfold AwaitsInHolding at h ⊢
  rw [dropAwaiting_trip, dropAwaiting_awaitingOff]
  by_cases none : s.awaitingOff = []
  · simpa [none] using h
  · obtain ⟨cause, holding⟩ := h.2 none
    by_cases rest : (s.awaitingOff.filter fun p => !gone p) = []
    · rw [rest]
      simp [none, holding, TripState.confirmed]
    · refine iff_of_true ⟨cause, ?_⟩ rest
      rw [if_neg fun emptied => rest emptied.2]
      exact holding

theorem awaitsInHolding_coreInvariant : CoreInvariant AwaitsInHolding where
  core same h := h.of_same same.tripState same.awaitingOff
  claimOn _ _ h := h
  claimOff _ h := h
  checked _ h := h
  abort reason failed h := (abortOrder_keeps _ reason failed).awaitsInHolding h
  endProposed _ h := h
  emptied _ h := h
  progress new _ _ h := (setProgress_keeps _ new).awaitsInHolding h
  propose head _ _ h := (propose_keeps _ head).awaitsInHolding h
  check head hold _ h := (checkOrder_keeps _ head hold).awaitsInHolding h
  abandonHold _ _ _ h := h
  takeTrip _ _ := awaitsInHolding_of_entered (by rw [takeTrip_trip]) (takeTrip_awaitingOff _)
  retrip _ _ := awaitsInHolding_of_entered (by rw [retrip_trip]) (retrip_awaitingOff _)
  resume {s} _ _ _ := by
    have released : AwaitsInHolding (releaseHold s) := by simp [AwaitsInHolding, releaseHold, post]
    unfold resumeOrder
    split
    · exact released
    · exact (checkOrder_keeps _ _ _).awaitsInHolding (released.of_same (by rfl) rfl)
  confirmedOff gone h := dropAwaiting_awaitsInHolding gone h
  endOp _ _ h := h
  startOp _ _ _ h := h
  reset := by simp [AwaitsInHolding, State.reset, TripUnit.reset]
  warm h := h.of_same rfl rfl

/-- Settles O7: AwaitsInHolding is a property of the core that every shared operation keeps. -/
theorem stepKeepsAwaitsInHolding : Obligations.StepKeepsAwaitsInHolding := fun _ _ h stepped =>
  awaitsInHolding_coreInvariant.step h stepped

/-! ## A hold record exactly while the order is SUSPENDED (O8) -/

theorem HoldMatchesOrder.of_same {s t : State} (h : HoldMatchesOrder s) (hold : t.trip.hold = s.trip.hold)
    (stage : t.order.stage = .suspended ↔ s.order.stage = .suspended)
    (stands : s.trip.state ≠ .clear → t.trip.state ≠ .clear) : HoldMatchesOrder t :=
  ⟨by rw [hold, stage]; exact h.1, fun suspended => stands (h.2 (stage.1 suspended))⟩

/-- With the hold record empty an order that is not SUSPENDED matches it. -/
theorem holdMatchesOrder_of_none {t : State} (hold : t.trip.hold = none) (stage : t.order.stage ≠ .suspended) :
    HoldMatchesOrder t := ⟨by simp [hold, stage], fun suspended => absurd suspended stage⟩

theorem HoldMatchesOrder.hold_none {s : State} (h : HoldMatchesOrder s) (stage : s.order.stage ≠ .suspended) :
    s.trip.hold = none := by
  cases hold : s.trip.hold with
  | none => rfl
  | some r => exact absurd (h.1.1 (by rw [hold]; rfl)) stage

/-- An order that leaves a stage other than SUSPENDED for another one, the trip unit as it was. -/
theorem HoldMatchesOrder.of_order {s t : State} (h : HoldMatchesOrder s) (trip : t.trip = s.trip)
    (before : s.order.stage ≠ .suspended) (after : t.order.stage ≠ .suspended) : HoldMatchesOrder t :=
  holdMatchesOrder_of_none (by rw [trip, h.hold_none before]) after

theorem stage_active (stage : ActiveStage) (head : OrderHead) (members : List OrderMember) (due : Nat) :
    (OrderRec.active stage head members due).stage = stage.stage := by
  cases stage <;> rfl

theorem ActiveStage.stage_ne_suspended (stage : ActiveStage) : stage.stage ≠ .suspended := by
  cases stage <;> simp [ActiveStage.stage]

theorem checkOrder_not_suspended (s : State) (head : OrderHead) (hold : Option (List Member)) :
    (checkOrder head hold s).order.stage ≠ .suspended := by
  unfold checkOrder
  simp only
  split
  · show (OrderRec.active _ _ _ _).stage ≠ _
    rw [stage_active]
    exact ActiveStage.stage_ne_suspended _
  split
  · exact fun h => by cases h
  · exact fun h => by cases h

theorem setProgress_not_suspended {s : State} {stage : ActiveStage} {head : OrderHead} {old : List OrderMember}
    {due : Nat} (new : List OrderMember) (active : s.order = .active stage head old due) :
    (setProgress new s).order.stage ≠ .suspended := by
  have turned : (OrderRec.active (turningStage new) head new due).stage ≠ .suspended := by
    rw [stage_active]
    exact ActiveStage.stage_ne_suspended _
  unfold setProgress
  simp only [active]
  split
  · exact fun h => by cases h
  split
  · exact turned
  · exact turned

theorem abortOrder_holdMatchesOrder {s : State} (reason : EndReason) (failed : OrderMember → Bool)
    (h : HoldMatchesOrder s) : HoldMatchesOrder (abortOrder reason failed s) := by
  unfold abortOrder
  split
  · next active =>
    refine h.of_order rfl ?_ fun suspended => by cases suspended
    rw [active, stage_active]
    exact ActiveStage.stage_ne_suspended _
  all_goals exact h

theorem takeTrip_holdMatchesOrder {s : State} (clear : s.trip.state = .clear) (h : HoldMatchesOrder s) :
    HoldMatchesOrder (takeTrip s) := by
  have still : s.order.stage ≠ .suspended := fun suspended => h.2 suspended clear
  have stands : (takeTrip s).trip.state ≠ .clear := by
    rw [takeTrip_trip]
    split <;> simp
  refine ⟨?_, fun _ => stands⟩
  rw [takeTrip_trip, takeTrip_order]
  cases order : s.order with
  | active stage head members due => simp [State.holdAtTrip, order, OrderRec.tripped, OrderRec.stage]
  | suspended head => exact absurd (by rw [order]; rfl) still
  | _ => simp [State.holdAtTrip, order, OrderRec.tripped, h.hold_none still, OrderRec.stage]

theorem holdMatchesOrder_coreInvariant : CoreInvariant HoldMatchesOrder where
  core same h := h.of_same same.hold (by rw [same.order]) (by rw [same.tripState]; exact id)
  claimOn _ _ h := h
  claimOff _ h := h
  checked _ h := h
  abort := abortOrder_holdMatchesOrder
  endProposed proposed h := h.of_order rfl (by rw [proposed]; simp [OrderRec.stage]) (by simp)
  emptied held h := h.of_order rfl (by rw [held]; simp [OrderRec.stage]) (by simp)
  progress new active _ h := h.of_order (by rw [(setProgress_keeps _ new).trip_eq])
    (by rw [active, stage_active]; exact ActiveStage.stage_ne_suspended _) (setProgress_not_suspended new active)
  propose head idle _ h := h.of_order rfl (by rw [idle]; simp) fun suspended => by cases suspended
  check head hold may h := h.of_order (by rw [(checkOrder_keeps _ head hold).trip_eq])
    (by rcases may with ⟨idle, -⟩ | proposed
        · simp [idle]
        · simp [proposed])
    (checkOrder_not_suspended _ head hold)
  abandonHold _ _ _ _ := holdMatchesOrder_of_none rfl fun suspended => by cases suspended
  takeTrip := takeTrip_holdMatchesOrder
  retrip _ h := h.of_same (by rw [retrip_trip]) (by rw [(retrip_keeps _).order_eq])
    (by rw [retrip_trip]; simp only; split <;> simp)
  resume {s} _ _ h := by
    unfold resumeOrder
    split
    · next none =>
      refine holdMatchesOrder_of_none none fun suspended => ?_
      have held := h.1.2 suspended
      rw [show s.trip.hold = _ from none] at held
      cases held
    · exact holdMatchesOrder_of_none (by rw [(checkOrder_keeps _ _ _).trip_eq]) (checkOrder_not_suspended _ _ _)
  confirmedOff gone h := h.of_same (by rw [dropAwaiting_trip]) (by rw [(dropAwaiting_keeps _ gone).order_eq])
    (by rw [dropAwaiting_trip]; simp only; split <;> simp [TripState.confirmed_clear])
  endOp _ _ h := h
  startOp _ _ _ h := h
  reset := holdMatchesOrder_of_none rfl (by simp [State.reset])
  warm _ := holdMatchesOrder_of_none rfl (by simp [warmState])

/-- Settles O8: HoldMatchesOrder is a property of the core that every shared operation keeps. -/
theorem stepKeepsHoldMatchesOrder : Obligations.StepKeepsHoldMatchesOrder := fun _ _ h stepped =>
  holdMatchesOrder_coreInvariant.step h stepped

/-! ## The queues and the watch table within their capacities (O10) -/

theorem reportConfirmedOff_withinCapacity {s : State} (h : WithinCapacity s) : WithinCapacity (reportConfirmedOff s) := by
  unfold reportConfirmedOff
  split
  · exact WithinCapacity.postAll (s := { s with trip := _ }) h _
  all_goals exact h

theorem abortOrder_withinCapacity {s : State} (reason : EndReason) (failed : OrderMember → Bool)
    (h : WithinCapacity s) : WithinCapacity (abortOrder reason failed s) := by
  unfold abortOrder
  split
  · exact WithinCapacity.postAll (s := { letGo s.orderPair s with order := _ }) h _
  all_goals exact h

theorem setProgress_withinCapacity {s : State} (new : List OrderMember) (h : WithinCapacity s) :
    WithinCapacity (setProgress new s) := by
  have ended : ∀ {u : State} head, WithinCapacity u → WithinCapacity (endToIdle head .done new (letGo u.orderPair u)) :=
    fun {u} head hu => WithinCapacity.postAll (s := { letGo u.orderPair u with order := .idle }) hu _
  have claimed : ∀ order stops starts coil, WithinCapacity (claimOn starts coil (claimOff stops { s with order := order })) :=
    fun _ _ _ _ => h
  unfold setProgress
  split
  · simp only
    split
    · exact ended _ (claimed _ _ _ _)
    split
    · exact claimed _ _ _ _
    · exact (claimed _ _ _ _).postAll _
  all_goals exact h

theorem setOrder_withinCapacity {s : State} (order : OrderRec) (h : WithinCapacity s) :
    WithinCapacity { s with order := order } := h

theorem checkOrder_withinCapacity {s : State} (head : OrderHead) (hold : Option (List Member)) (h : WithinCapacity s) :
    WithinCapacity (checkOrder head hold s) := by
  have checked : WithinCapacity (post (.orderStage .checked head) s) := h.postAll _
  unfold checkOrder
  simp only
  split
  · exact ((claimOff_keeps _ _).withinCapacity (by decide) (setOrder_withinCapacity _ checked)).postAll _
  split
  · exact (setOrder_withinCapacity _ checked).postAll _
  · exact (setOrder_withinCapacity _ checked).postAll _

theorem abortSetOp_withinCapacity {s : State} (hb : Headblock) (reason : SetReason) (h : WithinCapacity s) :
    WithinCapacity (abortSetOp hb reason s) := by
  have compose : ∀ {u : State}, WithinCapacity u → WithinCapacity (compose u) := by
    intro u hu
    unfold Machine.compose
    split
    · exact hu
    · exact abortOrder_withinCapacity (s := { u with group := { u.group with members := u.composed } }) _ _ hu
  unfold abortSetOp
  split
  · exact h
  · exact compose (((updateSetting_keeps _ _ _).withinCapacity (by decide)
      ((letGo_keeps s _).withinCapacity (by decide) h)).postAll _)

theorem tripOps_withinCapacity {s : State} (h : WithinCapacity s) : WithinCapacity (tripOps s) := by
  have claimed : WithinCapacity (claimForceOff s) := (claimForceOff_keeps s).withinCapacity (by decide) h
  have entered : WithinCapacity (enterHolding .trip s.holdAtTrip (claimForceOff s)) :=
    ((setTrip_keeps _ _).withinCapacity (by decide) claimed).postAll _
  have ordered : WithinCapacity (tripHolding s) := by
    unfold tripHolding tripOrder
    split
    · exact (setOrder_withinCapacity _ entered).postAll _
    · exact (setOrder_withinCapacity _ ((letGo_keeps _ _).withinCapacity (by decide) entered)).postAll _
    all_goals exact entered
  exact abortSetOp_withinCapacity .b _ (abortSetOp_withinCapacity .a _ ordered)

theorem takeTrip_withinCapacity {s : State} (h : WithinCapacity s) : WithinCapacity (takeTrip s) := by
  have left : WithinCapacity (leaveBypass .trip (tripOps s)) := by
    rw [leaveBypass_tripOps]
    split
    · exact tripOps_withinCapacity h
    · exact WithinCapacity.postAll (s := { tripOps s with bypass := none }) (tripOps_withinCapacity h) _
  have grouped : WithinCapacity (postGroup s (evalGroup (leaveBypass .trip (tripOps s)))) :=
    WithinCapacity.postAll (s := evalGroup (leaveBypass .trip (tripOps s)))
      ((evalGroup_keeps _).withinCapacity (by decide) left) _
  rw [takeTrip_eq]
  unfold reportIfEmpty
  split
  · exact reportConfirmedOff_withinCapacity grouped
  · exact grouped

theorem withinCapacity_coreInvariant : CoreInvariant WithinCapacity where
  core same := same.capacity
  claimOn _ _ h := h
  claimOff _ h := h
  checked _ h := h
  abort reason failed h := abortOrder_withinCapacity reason failed h
  endProposed _ h := h
  emptied _ h := h
  progress new _ _ h := setProgress_withinCapacity new h
  propose {s} head _ _ h := WithinCapacity.postAll (s := { s with order := _ }) h _
  check head hold _ h := checkOrder_withinCapacity head hold h
  abandonHold _ _ _ h := h
  takeTrip _ h := takeTrip_withinCapacity h
  retrip {s} _ h := by
    have entered : WithinCapacity (enterHolding .trip s.trip.hold (claimForceOff s)) :=
      WithinCapacity.postAll (s := { claimForceOff s with trip := _ }) h _
    unfold retrip reportIfEmpty
    split
    · exact reportConfirmedOff_withinCapacity entered
    · exact entered
  resume {s} _ _ h := by
    have released : WithinCapacity (releaseHold s) :=
      WithinCapacity.postAll (s := { s with trip := _, awaitingOff := [] }) h _
    unfold resumeOrder
    split
    · exact released
    · exact checkOrder_withinCapacity _ _ released
  confirmedOff {s} gone h := by
    unfold dropAwaiting
    simp only
    split
    · exact reportConfirmedOff_withinCapacity h
    · exact h
  endOp _ _ h := h
  startOp _ _ _ h := h
  reset := by simp [WithinCapacity, State.reset, startNotices, Config.noticeCapacity]
  warm _ := by simp [WithinCapacity, warmState, Link.started]

/-- Settles O10: the capacities are kept by every shared operation, as each posts notices through the queue's own rule. -/
theorem stepKeepsWithinCapacity : Obligations.StepKeepsWithinCapacity := fun _ _ h stepped =>
  withinCapacity_coreInvariant.step h stepped

end Sys2Proof.Machine
end

section
/-! SUPPORT. The member table against the rule it is derived by, the permits, and the steps and starts. -/

namespace Sys2Proof.Machine

-- One theorem at a time: proofs that wait for one another hold a thread each.
set_option Elab.async false

/-! ## What the member table is derived from -/

/-- R3: a member's values are read off the service of its spreader and the input image of its ONLINE corner node. -/
theorem derivedMember_congr {s t : State} {m : Member}
    (service : (t.attachState m.hb).inService = (s.attachState m.hb).inService)
    (input : t.onlineInput m.hb m.node = s.onlineInput m.hb m.node) : t.derivedMember m = s.derivedMember m := by
  simp only [State.derivedMember, service, input]

theorem onlineInput_congr {s t : State} {hb : Headblock} {n : NodeIx}
    (node : (t.node hb n).map NodeRec.received = (s.node hb n).map NodeRec.received) :
    t.onlineInput hb n = s.onlineInput hb n := by
  unfold State.onlineInput
  cases ht : t.node hb n with
  | none =>
    cases hs : s.node hb n with
    | none => rfl
    | some q => rw [ht, hs] at node; cases node
  | some r =>
    cases hs : s.node hb n with
    | none => rw [ht, hs] at node; cases node
    | some q =>
      rw [ht, hs] at node
      have received : r.received = q.received := Option.some.inj node
      have link : r.link = q.link := (congrArg NodeRec.link received :)
      have input : r.input = q.input := (congrArg NodeRec.input received :)
      simp only [link, input]

/-- A change outside attachment and nodes leaves what the rule derives. -/
theorem keeps.derivedMember {l : List Field} {s t : State} (h : keeps l s t) (m : Member)
    (attach : Field.attach ∉ l := by decide) (nodes : Field.nodes ∉ l := by decide) :
    t.derivedMember m = s.derivedMember m :=
  derivedMember_congr (by simp only [State.attachState, h.attach_eq attach]) (onlineInput_congr (h .nodes nodes _ _))

/-- R2 to R4 but for the members named, whose derivation is still to come. -/
def DerivedBut (named : Member → Prop) (s : State) : Prop := ∀ m, ¬named m → s.member m = s.derivedMember m

theorem MembersDerived.but {s : State} (h : MembersDerived s) (named : Member → Prop) : DerivedBut named s :=
  fun m _ => h m

theorem DerivedBut.of_same {named : Member → Prop} {s t : State} (h : DerivedBut named s) (members : t.members = s.members)
    (derived : ∀ m, ¬named m → t.derivedMember m = s.derivedMember m) : DerivedBut named t := fun m other => by
  rw [derived m other, ← h m other, State.member, members]
  rfl

theorem keeps.derivedBut {l : List Field} {named : Member → Prop} {s t : State} (k : keeps l s t)
    (h : DerivedBut named s) (attach : Field.attach ∉ l := by decide) (nodes : Field.nodes ∉ l := by decide)
    (members : Field.members ∉ l := by decide) : DerivedBut named t :=
  h.of_same (k.members_eq members) fun m _ => k.derivedMember m attach nodes

theorem keeps.membersDerived {l : List Field} {s t : State} (k : keeps l s t) (h : MembersDerived s)
    (attach : Field.attach ∉ l := by decide) (nodes : Field.nodes ∉ l := by decide)
    (members : Field.members ∉ l := by decide) : MembersDerived t := fun m =>
  k.derivedBut (h.but fun _ => False) attach nodes members m id

/-- A state that agrees in the parts the rule reads. -/
theorem MembersDerived.outside {s t : State} (h : MembersDerived s) (members : t.members = s.members := by rfl)
    (attach : t.attach = s.attach := by rfl) (bus : t.bus = s.bus := by rfl) : MembersDerived t := fun m => by
  have same : t.derivedMember m = s.derivedMember m :=
    derivedMember_congr (by simp only [State.attachState, attach]) (by simp only [State.onlineInput, State.node, bus])
  rw [same, ← h m, State.member, members]
  rfl

/-- R4: deriving the members named again completes the table. -/
theorem rederive_membersDerived {named : Member → Bool} {s : State} (h : DerivedBut (fun m => named m = true) s) :
    MembersDerived (rederive named s) := fun m => by
  rw [(rederive_keeps s named).derivedMember m, rederive, member_updateMembers]
  split
  · rfl
  · next other => exact h m other

theorem mem_nodeMembers {hb : Headblock} {n : NodeIx} {m : Member} :
    m ∈ nodeMembers hb n ↔ m.hb = hb ∧ m.node = n := by
  obtain ⟨h, k⟩ := m
  unfold nodeMembers Member.node
  split
  · simp only [List.mem_cons, List.not_mem_nil, or_false, Member.mk.injEq, Fin.ext_iff, ← and_or_left]
    exact and_congr_right fun _ => by omega
  · next high =>
    simp only [List.not_mem_nil, false_iff, not_and]
    rintro - rfl
    exact high (Nat.mod_lt _ (by decide))

theorem rederiveNode_membersDerived {hb : Headblock} {n : NodeIx} {s : State}
    (h : DerivedBut (fun m => m.hb = hb ∧ m.node = n) s) : MembersDerived (rederiveNode hb n s) :=
  rederive_membersDerived fun m other => h m fun here => other (by simpa using mem_nodeMembers.2 here)

/-! ## Changes of attachment state -/

theorem handOnAttach_membersDerived {hb : Headblock} (left : AttachState) {s : State}
    (h : DerivedBut (fun m => m.hb = hb) s) : MembersDerived (handOnAttach hb left s) := by
  have derived : MembersDerived (rederiveHead hb (settingOnAttach hb left (s.attachState hb) s)) :=
    rederive_membersDerived ((settingOnAttach_keeps s hb left _).derivedBut (by simpa using h))
  unfold handOnAttach
  simp only
  split <;> split
  · exact (composeAndLeave_keeps _ hb).membersDerived derived
  · exact (composeOnAttach_keeps _ hb _).membersDerived derived
  · exact (endTransfer_keeps _ hb _).membersDerived ((composeAndLeave_keeps _ hb).membersDerived derived)
  · exact (endTransfer_keeps _ hb _).membersDerived ((composeOnAttach_keeps _ hb _).membersDerived derived)

/-- What is done on one bus or to one attachment manager leaves what the rule derives for the other spreader. -/
theorem DerivedBut.updateBus {hb : Headblock} {s : State} (h : DerivedBut (fun m => m.hb = hb) s) (f : Bus → Bus) :
    DerivedBut (fun m => m.hb = hb) (updateBus hb f s) :=
  h.of_same rfl fun m other => derivedMember_congr rfl (by
    simp only [State.onlineInput, State.node, bus_updateBus, if_neg other])

theorem DerivedBut.updateAttach {hb : Headblock} {s : State} (h : DerivedBut (fun m => m.hb = hb) s)
    (f : Attach → Attach) : DerivedBut (fun m => m.hb = hb) (updateAttach hb f s) :=
  h.of_same rfl fun m other => derivedMember_congr (by
    simp only [State.attachState, attach_updateAttach, if_neg other]) rfl

theorem changeAttach_membersDerived {hb : Headblock} (f : Attach → Attach) (further : List NoticeBody) {s : State}
    (h : DerivedBut (fun m => m.hb = hb) s) : MembersDerived (changeAttach hb f further s) := by
  unfold changeAttach
  simp only
  have noted := fun bodies => (postAll_keeps (updateAttach hb f s) bodies).derivedBut (h.updateAttach f)
  refine handOnAttach_membersDerived _ ?_
  split
  · exact (dropAwaiting_keeps _ _).derivedBut (DerivedBut.updateBus (noted _) _)
  · exact noted _

/-- An attachment manager rewritten without its state. -/
theorem MembersDerived.updateAttach {s : State} (h : MembersDerived s) (hb : Headblock) {f : Attach → Attach}
    (state : (f (s.attach.get hb)).state = (s.attach.get hb).state) : MembersDerived (updateAttach hb f s) := fun m => by
  have same : (Machine.updateAttach hb f s).derivedMember m = s.derivedMember m := derivedMember_congr (by
    simp only [State.attachState, attach_updateAttach]
    split
    · next here => rw [state, here]
    · rfl) rfl
  rw [same, ← h m]
  rfl

theorem insertPlug_membersDerived {hb : Headblock} {s : State} (h : MembersDerived s) :
    MembersDerived (insertPlug hb s) := by
  unfold insertPlug
  split
  · exact changeAttach_membersDerived _ _ (h.but _)
  · exact h

theorem plugSettled_membersDerived (hb : Headblock) (present : Bool) {s : State} (h : MembersDerived s) :
    MembersDerived (plugSettled hb present s) := by
  unfold plugSettled
  simp only
  split
  · exact h
  split
  · have recognized : MembersDerived (recognizePlug hb (advanceTo ‹Nat› s)) :=
      ((advanceTo_keeps s _).membersDerived h).updateAttach hb rfl
    split
    · exact insertPlug_membersDerived recognized
    · unfold removePlug
      split
      case h_1 | h_2 => exact recognized
      all_goals exact changeAttach_membersDerived _ _ (recognized.but _)
  · exact h

theorem powerUpEnd_membersDerived (hb : Headblock) {s : State} (h : MembersDerived s) :
    MembersDerived (powerUpEnd hb s) := by
  unfold powerUpEnd
  split
  · exact changeAttach_membersDerived _ _ (((advanceTo_keeps s _).membersDerived h).but _)
  · exact h

theorem powerDownEnd_membersDerived (hb : Headblock) {s : State} (h : MembersDerived s) :
    MembersDerived (powerDownEnd hb s) := by
  unfold powerDownEnd
  split
  · have ended := ((advanceTo_keeps s ‹Nat›).membersDerived h).but fun m => m.hb = hb
    unfold afterRelease
    split
    · exact changeAttach_membersDerived _ _ ended
    · exact changeAttach_membersDerived _ _ ended
    · simp only
      split
      · exact insertPlug_membersDerived (changeAttach_membersDerived _ _ ended)
      · exact changeAttach_membersDerived _ _ ended
  · exact h

/-! ## Outcomes of frames -/

theorem endCensus_membersDerived (hb : Headblock) (c : Census) (verdict : Except AttachCause Descriptor) {s : State}
    (h : MembersDerived s) : MembersDerived (endCensus hb c verdict s) := by
  have table := fun f => (h.but fun m => m.hb = hb).updateBus f
  unfold endCensus
  split
  · exact changeAttach_membersDerived _ _ (h.but _)
  split
  · split
    · exact changeAttach_membersDerived _ _ ((clearMismatches_keeps _ _).derivedBut (table _))
    · exact changeAttach_membersDerived _ _ ((clearLatches_keeps _ _).derivedBut
        ((clearMismatches_keeps _ _).derivedBut (table _)))
  · exact changeAttach_membersDerived _ _ ((clearMismatches_keeps _ _).derivedBut (table _))

theorem identifyOutcome_membersDerived (hb : Headblock) (outcome : FrameOutcome) {s : State} (h : MembersDerived s) :
    MembersDerived (identifyOutcome hb outcome s) := by
  have kept : ∀ c, MembersDerived (keepCensus hb c s) := fun c => h.updateAttach hb rfl
  have on : ∀ c, MembersDerived (censusOn hb c s) := by
    intro c
    unfold censusOn
    split
    · exact kept _
    · exact endCensus_membersDerived hb c _ h
  have census : ∀ c, MembersDerived (censusOutcome hb c outcome s) := by
    intro c
    unfold censusOutcome
    split
    · exact on _
    · exact endCensus_membersDerived hb c _ h
    all_goals split; exacts [kept _, on c]
  unfold identifyOutcome
  split
  · exact census _
  · exact census _
  · split; exacts [changeAttach_membersDerived _ _ (h.but _), h]
  · exact h

/-- An update of one bus that leaves the images and the link states of its nodes. -/
theorem MembersDerived.updateBus {s : State} (h : MembersDerived s) (hb : Headblock) (f : Bus → Bus)
    (input : ∀ n, (updateBus hb f s).onlineInput hb n = s.onlineInput hb n) : MembersDerived (updateBus hb f s) := fun m => by
  have same : (Machine.updateBus hb f s).derivedMember m = s.derivedMember m := by
    by_cases here : m.hb = hb
    · exact derivedMember_congr rfl (here ▸ input m.node)
    · exact derivedMember_congr rfl (by simp only [State.onlineInput, State.node, bus_updateBus, if_neg here])
  rw [same, ← h m]
  rfl

/-- An update of one bus that leaves its node table. -/
theorem MembersDerived.updateBus_nodes {s : State} (h : MembersDerived s) (hb : Headblock) (f : Bus → Bus)
    (nodes : (f (s.bus.get hb)).nodes = (s.bus.get hb).nodes) : MembersDerived (Machine.updateBus hb f s) :=
  h.updateBus hb f fun n => by
    simp only [State.onlineInput, State.node, bus_updateBus, if_pos, Bus.node, nodes]

theorem node_updateBus_updateNode (s : State) (hb : Headblock) (n m : NodeIx) (f : NodeRec → NodeRec) :
    (updateBus hb (Bus.updateNode n f) s).node hb m = if m = n then (s.node hb m).map f else s.node hb m := by
  simp only [State.node, bus_updateBus, if_pos, Bus.updateNode, node_updateNodes]

/-- A node's record rewritten without link state and input image. -/
theorem onlineInput_updateNode {f : NodeRec → NodeRec} (s : State) (hb : Headblock) (n m : NodeIx)
    (same : ∀ r, s.node hb n = some r → (f r).link = r.link ∧ (f r).input = r.input) :
    (updateBus hb (Bus.updateNode n f) s).onlineInput hb m = s.onlineInput hb m := by
  unfold State.onlineInput
  rw [node_updateBus_updateNode]
  by_cases here : m = n
  · subst here
    rw [if_pos rfl]
    cases found : s.node hb m with
    | none => rfl
    | some r =>
      obtain ⟨link, input⟩ := same r found
      simp only [Option.map_some, link, input]
  · rw [if_neg here]

theorem checkLinkDown_membersDerived (hb : Headblock) {s : State} (h : MembersDerived s) :
    MembersDerived (checkLinkDown hb s) := by
  unfold checkLinkDown
  split
  · exact h
  split
  · exact changeAttach_membersDerived _ _ ((h.but _).updateBus _)
  · exact h

theorem nodeLost_membersDerived {hb : Headblock} {n : NodeIx} {s : State}
    (h : DerivedBut (fun m => m.hb = hb ∧ m.node = n) s) : MembersDerived (nodeLost hb n s) := by
  have derived : MembersDerived (rederiveNode hb n (confirmLost hb n s)) :=
    rederiveNode_membersDerived ((confirmLost_keeps s hb n).derivedBut h)
  exact checkLinkDown_membersDerived hb ((abortTransferOf_keeps _ hb n).membersDerived
    ((settingNodeLost_keeps _ hb n).membersDerived ((orderNodeLost_keeps _ hb n).membersDerived derived)))

/-- A node whose record has changed is derived again, unless its link state and its image are those of before. -/
theorem linkChanged_membersDerived {hb : Headblock} {n : NodeIx} {old : NodeRec} {s : State}
    (h : DerivedBut (fun m => m.hb = hb ∧ m.node = n) s)
    (same : ∀ r, s.node hb n = some r → r.link = old.link → MembersDerived s) (node : (s.node hb n).isSome) :
    MembersDerived (linkChanged hb n old.link s) := by
  unfold linkChanged
  split
  · next none => rw [none] at node; cases node
  · next r found =>
    split
    · next link => exact same r found link
    split
    · exact nodeLost_membersDerived h
    · exact rederiveNode_membersDerived h

/-- A record written for one node: the members of the others stand, and all do where link state and image are kept. -/
theorem entered_derivedBut {s : State} (h : MembersDerived s) (hb : Headblock) (n : NodeIx) (new : NodeRec)
    (bodies : List NoticeBody) : DerivedBut (fun m => m.hb = hb ∧ m.node = n)
      (postAll bodies (updateBus hb (Bus.updateNode n fun _ => new) s)) := by
  refine (postAll_keeps _ _).derivedBut ((h.but _).of_same rfl fun m other => derivedMember_congr rfl ?_)
  by_cases here : m.hb = hb
  · simp only [State.onlineInput, here, node_updateBus_updateNode, if_neg fun e => other ⟨here, e⟩]
  · simp only [State.onlineInput, State.node, bus_updateBus, if_neg here]

theorem entered_membersDerived {s : State} (h : MembersDerived s) {hb : Headblock} {n : NodeIx} {old new : NodeRec}
    (node : s.node hb n = some old) (link : new.link = old.link) (input : new.input = old.input) :
    MembersDerived (updateBus hb (Bus.updateNode n fun _ => new) s) :=
  h.updateBus hb _ fun m => by
    refine onlineInput_updateNode s hb n m fun r found => ?_
    rw [node] at found
    cases found
    exact ⟨link, input⟩

theorem NodeRec.bad_input (r : NodeRec) : r.bad.input = r.input := by
  unfold NodeRec.bad
  split <;> rfl

/-- R138: an outcome that is not a good exchange leaves the input image. -/
theorem NodeRec.exchanged_input {outcome : FrameOutcome} (now : Nat) (f : Flight) (image period : Byte) (r : NodeRec)
    (bad : ∀ input echo status, outcome ≠ .good (.exchange input echo status)) :
    (r.exchanged now f image period outcome).input = r.input := by
  unfold NodeRec.exchanged
  split
  · exact absurd rfl (bad _ _ _)
  all_goals exact r.bad_input

theorem goodExchange_membersDerived {hb : Headblock} {n : NodeIx} (input : Byte) (old : State) {s : State}
    (h : DerivedBut (fun m => m.hb = hb ∧ m.node = n) s) : MembersDerived (goodExchange hb n input old s) :=
  (settingOnReply_keeps _ hb n _ input).membersDerived ((orderOnReply_keeps _ hb n _ old).membersDerived
    (rederiveNode_membersDerived ((coilsOnReply_keeps s hb n).derivedBut h)))

theorem node_postAll_entered {s : State} {hb : Headblock} {n : NodeIx} {old : NodeRec} (node : s.node hb n = some old)
    (new : NodeRec) (bodies : List NoticeBody) :
    (postAll bodies (updateBus hb (Bus.updateNode n fun _ => new) s)).node hb n = some new := by
  show (updateBus hb (Bus.updateNode n fun _ => new) s).node hb n = _
  rw [node_updateBus_updateNode, if_pos rfl, node, Option.map_some]

theorem exchangeOutcome_membersDerived (hb : Headblock) (f : Flight) (image period : Byte) (outcome : FrameOutcome)
    {s : State} (h : MembersDerived s) : MembersDerived (exchangeOutcome hb f image period outcome s) := by
  unfold exchangeOutcome
  split
  · exact h
  · next old node =>
    have entered := fun new bodies => entered_derivedBut h hb f.node new bodies
    have missed : ∀ bodies, (∀ input echo status, outcome ≠ .good (.exchange input echo status)) →
        MembersDerived (linkChanged hb f.node old.link (postAll bodies
          (updateBus hb (Bus.updateNode f.node fun _ => old.exchanged s.time f image period outcome) s))) := by
      intro bodies bad
      refine linkChanged_membersDerived (entered _ _) (fun r found link => ?_) ?_
      · rw [node_postAll_entered node] at found
        cases found
        exact (postAll_keeps _ _).membersDerived
          (entered_membersDerived h node link (NodeRec.exchanged_input _ _ _ _ _ bad))
      · rw [node_postAll_entered node]
        rfl
    simp only
    split
    · exact goodExchange_membersDerived _ _ (entered _ _)
    all_goals exact missed _ (by simp)

theorem NodeRec.diagnosed_input (now : Nat) (outcome : FrameOutcome) (r : NodeRec) :
    (r.diagnosed now outcome).input = r.input := by
  unfold NodeRec.diagnosed
  split
  · rfl
  · exact r.bad_input

theorem diagOutcome_membersDerived (hb : Headblock) (f : Flight) (outcome : FrameOutcome) {s : State}
    (h : MembersDerived s) : MembersDerived (diagOutcome hb f outcome s) := by
  unfold diagOutcome
  split
  · exact h
  · next old node =>
    generalize hnew : old.diagnosed s.time outcome = new
    have input : new.input = old.input := by rw [← hnew, NodeRec.diagnosed_input]
    generalize hu : updateBus hb (Bus.updateNode f.node fun _ => new) s = u
    have transferred : keeps [.traffic, .notices] u (if f.orphan then u else transferOutcome hb outcome u) := by
      split
      · exact keeps.refl _ u
      · exact transferOutcome_keeps u hb outcome
    simp only [hu]
    have handled : keeps [.traffic, .notices] u
        (if new.link = .lost ∧ old.link ≠ .lost then
          abortTransferOf hb f.node (if f.orphan then u else transferOutcome hb outcome u)
        else if f.orphan then u else transferOutcome hb outcome u) := by
      split
      · exact transferred.trans (abortTransferOf_keeps _ hb _)
      · exact transferred
    have all := handled.then (postAll_keeps _ (nodeStateNotices hb f.node outcome old new)) (l := [.traffic, .notices])
    have found := node_postAll_entered node new []
    have received := all .nodes (by decide) hb f.node
    rw [show u.node hb f.node = some new from hu ▸ found] at received
    refine linkChanged_membersDerived (all.derivedBut ?_) (fun r at_node link => all.membersDerived ?_) ?_
    · exact hu ▸ entered_derivedBut h hb f.node new []
    · rw [at_node] at received
      have same : new.link = r.link := (congrArg NodeRec.link (Option.some.inj received)).symm
      exact hu ▸ entered_membersDerived h node (same.trans link) input
    · rw [Option.isSome_iff_ne_none]
      intro none
      rw [none] at received
      cases received

theorem onWindow_membersDerived (hb : Headblock) (judge : Flight → FrameOutcome) {s : State} (h : MembersDerived s) :
    MembersDerived (onWindow hb judge s) := by
  unfold onWindow
  split
  · exact h
  split
  · exact h
  · have free := h.updateBus_nodes hb (fun b => { b with flight := none }) rfl
    unfold takeOutcome
    simp only
    split
    · exact free
    split
    · exact exchangeOutcome_membersDerived hb _ _ _ _ free
    · exact identifyOutcome_membersDerived hb _ free
    · exact diagOutcome_membersDerived hb _ _ free

theorem masterFrameEnd_membersDerived (hb : Headblock) {s : State} (h : MembersDerived s) :
    MembersDerived (masterFrameEnd hb s) := by
  unfold masterFrameEnd
  split
  · exact h
  · next f _ =>
    split
    · have opened := h.updateBus_nodes hb (fun b => { b with flight := some { f with phase := .window, endTime := s.time } }) rfl
      simp only
      split
      · exact opened.updateBus hb _ fun m => onlineInput_updateNode _ hb _ m fun _ _ => ⟨rfl, rfl⟩
      all_goals exact opened
    · exact h

theorem holdOff_membersDerived (hb : Headblock) (overlap : Bool) {s : State} (h : MembersDerived s) :
    MembersDerived (holdOff hb overlap s) := by
  unfold holdOff
  split
  · exact h
  split
  · exact h
  all_goals exact h.updateBus_nodes hb _ rfl

/-! ## Requests and starts -/

theorem RequestAct.membersDerived {s t : State} (act : RequestAct s t) (h : MembersDerived s) : MembersDerived t := by
  have kept : ∀ {l : List Field} {t : State}, keeps l s t → Field.attach ∉ l → Field.nodes ∉ l → Field.members ∉ l →
      MembersDerived t := fun k a n m => k.membersDerived h a n m
  cases act with
  | nothing => exact h
  | timing | authority | watchEdge | watchAdd | watchFilter => exact h.outside
  | mode m => exact (compose_keeps _).membersDerived (MembersDerived.outside (s := s) h)
  | check head => exact kept (checkOrder_keeps _ _ _) (by decide) (by decide) (by decide)
  | propose head => exact kept (propose_keeps _ _) (by decide) (by decide) (by decide)
  | abandonProposed => exact kept (endToIdle_keeps _ _ _ _) (by decide) (by decide) (by decide)
  | abandonActive => exact kept (abortOrder_keeps _ _ _) (by decide) (by decide) (by decide)
  | abandonHold members =>
    exact (enterFaultHeld_keeps _ _ _ _).membersDerived (MembersDerived.outside (s := s) h)
  | clearFaults named =>
    refine (clearLatches_keeps _ _).membersDerived ?_
    unfold emptyFaultHeld
    split
    · exact (post_keeps _ _).membersDerived (MembersDerived.outside (s := s) h)
    all_goals exact h
  | retrip => exact kept (retrip_keeps _) (by decide) (by decide) (by decide)
  | resume =>
    have released : MembersDerived (releaseHold s) :=
      (post_keeps _ _).membersDerived (MembersDerived.outside (s := s) h)
    unfold resumeOrder
    split
    · exact released
    · exact (checkOrder_keeps _ _ _).membersDerived (MembersDerived.outside (s := releaseHold s) released)
  | bypassEnter hb => exact (post_keeps _ _).membersDerived (MembersDerived.outside (s := s) h)
  | bypassExit => exact kept (leaveBypass_keeps _ _) (by decide) (by decide) (by decide)
  | setSpreader hb target => exact kept (acceptSet_keeps _ _ _) (by decide) (by decide) (by decide)
  | profile hb p => exact h.updateAttach hb rfl
  | arm hb =>
    exact changeAttach_membersDerived _ _ (((clearLatches_keeps s _).membersDerived h).but _)
  | attachment hb f => exact changeAttach_membersDerived _ _ (h.but _)
  | readDiag hb t => exact h.updateBus_nodes hb _ rfl

theorem takeRequest_membersDerived {s : State} (h : MembersDerived s) : MembersDerived (takeRequest s) := by
  unfold takeRequest
  split
  · exact MembersDerived.outside (s := (answerRequest _ _ s).state)
      ((RequestAct.answerRequest _ _ s).membersDerived h)
  all_goals exact h

theorem arrive_membersDerived (q : Request) {s : State} (h : MembersDerived s) : MembersDerived (arrive q s) := by
  unfold arrive
  split
  · exact (post_keeps s _).membersDerived h
  split
  · exact takeRequest_membersDerived (MembersDerived.outside (s := s) h)
  · exact (post_keeps s _).membersDerived h

theorem setReceiver_membersDerived (rx : Receiver) {s : State} (h : MembersDerived s) :
    MembersDerived (setReceiver rx s) := h.outside

theorem receiveByte_membersDerived (b : Byte) {s : State} (h : MembersDerived s) : MembersDerived (receiveByte b s) := by
  have heard := fun rx => setReceiver_membersDerived rx h
  have discarded := fun rx reason tag kind => (post_keeps (setReceiver rx s) (.frameDiscarded reason tag kind)).membersDerived
    (heard rx)
  unfold receiveByte
  split
  · split; exacts [heard _, h]
  · split; exacts [heard _, discarded _ _ _ _]
  · split
    · exact heard _
    · unfold judgeFrame
      simp only
      split
      · split; exacts [arrive_membersDerived _ (heard _), discarded _ _ _ _]
      · exact discarded _ _ _ _

/-- With empty node tables every member is UNKNOWN by the rule. -/
theorem membersDerived_of_unknown {s : State} (members : ∀ m, s.member m = .reset) (nodes : ∀ hb n, s.node hb n = none) :
    MembersDerived s := fun m => by
  rw [members, State.derivedMember]
  split
  · rw [State.onlineInput, nodes]
  · rfl

theorem start_membersDerived (kind : StartKind) {s : State} (h : MembersDerived s) : MembersDerived (start kind s) := by
  have unknown : ∀ m, (powerOnState s).member m = .reset := fun m => by
    simp [powerOnState, State.reset, State.member]
  unfold start
  split
  · refine (postAll_keeps _ _).membersDerived (membersDerived_of_unknown unknown fun hb n => ?_)
    simp [powerOnState, State.reset, State.node, Bus.reset, Bus.node]
  · refine (postAll_keeps _ _).membersDerived (membersDerived_of_unknown unknown fun hb n => ?_)
    simp [State.node, Bus.cold, Bus.reset, Bus.node]
  · refine (postAll_keeps _ _).membersDerived ((evalGroup_keeps _).membersDerived ((compose_keeps _).membersDerived ?_))
    intro m
    have same : (warmState s).derivedMember m = s.derivedMember m := by
      refine derivedMember_congr rfl (onlineInput_congr ?_)
      simp only [State.node, warmState, PerHead.get_ofFn, Bus.warm]
      show ((Bus.updateNodes _ _).node _).map _ = _
      rw [node_updateNodes, Option.map_map]
      rfl
    rw [same, ← h m]
    rfl

/-! ## Every command -/

theorem exec_membersDerived {c : Instr} {s t : State} (h : MembersDerived s) (next : exec c s = .next t) :
    MembersDerived t := by
  have ended : ∀ {old u : State}, MembersDerived u → Host.Outcome.next (finish old u) = (.next t : Result) →
      MembersDerived t := by
    rintro old u hu ⟨⟩
    exact (finish_keeps u old).membersDerived hu
  cases hq : requestOf c with
  | some q =>
    rw [exec_request c q hq] at next
    exact ended (arrive_membersDerived q h) next
  | none =>
    cases c with
    | powerOn => exact ended (start_membersDerived .powerOn h) next
    | linkFrameReceived b | linkByteReceived b => exact ended (receiveByte_membersDerived b h) next
    | linkByteGap =>
      refine ended ?_ next
      unfold byteGap
      split
      · exact h
      all_goals
        exact (post_keeps _ _).membersDerived (setReceiver_membersDerived _ ((advanceTo_keeps s _).membersDerived h))
    | replySent =>
      simp only [exec, execReplySent] at next
      split at next
      · exact ended (start_membersDerived _ h) next
      · refine ended ?_ next
        unfold replySent
        split
        · exact takeRequest_membersDerived (MembersDerived.outside (s := s) h)
        · exact h
    | noticeSent =>
      refine ended ?_ next
      unfold noticeSent
      split
      · exact h.outside
      · exact h
    | tripChainRawChange closed =>
      refine ended ?_ next
      unfold chainRaw
      split
      · exact h
      · exact h.outside
    | tripEdge =>
      refine ended ?_ next
      unfold tripEdge
      split
      · exact h
      split
      · have recognized : MembersDerived (recognizeChain (advanceTo ‹Nat› s)) :=
          MembersDerived.outside (s := advanceTo ‹Nat› s) ((advanceTo_keeps s _).membersDerived h)
        unfold tripByState
        split
        · exact (takeTrip_keeps _).membersDerived recognized
        · unfold pendTrip
          split
          · exact recognized
          · exact (post_keeps _ _).membersDerived (MembersDerived.outside (s := recognizeChain _) recognized)
      · exact h
    | tripChainRearm =>
      refine ended ?_ next
      unfold chainRearm
      split
      · exact h
      split
      · exact MembersDerived.outside (s := advanceTo ‹Nat› s) ((advanceTo_keeps s _).membersDerived h)
      · exact h
    | plugRawChange hb present =>
      refine ended ?_ next
      unfold plugRaw
      simp only
      split
      · exact h
      · exact h.updateAttach hb rfl
    | plugInsertion hb => exact ended (plugSettled_membersDerived hb true h) next
    | plugRemoval hb => exact ended (plugSettled_membersDerived hb false h) next
    | powerUpDelayEnd hb => exact ended (powerUpEnd_membersDerived hb h) next
    | powerDownDelayEnd hb => exact ended (powerDownEnd_membersDerived hb h) next
    | masterFrameEnd hb => exact ended (masterFrameEnd_membersDerived hb h) next
    | holdOff hb overlap => exact ended (holdOff_membersDerived hb overlap h) next
    | exchReply hb | idReply hb | diagReply hb | replyWindowEnd hb | replyStall hb =>
      exact ended (onWindow_membersDerived hb _ h) next
    | nodeDue hb n =>
      refine ended ?_ next
      unfold nodeDue
      split
      · exact (advanceTo_keeps s _).membersDerived h
      · exact h
    | probeDue hb =>
      refine ended ?_ next
      unfold probeDue
      split
      · exact (advanceTo_keeps s _).membersDerived h
      · exact h
    | lastOnExpiry p coil =>
      refine ended ?_ next
      unfold expireLastOn
      split
      · exact h
      · exact (updatePairs_keeps _ _).membersDerived ((advanceTo_keeps s _).membersDerived h)
    | lostNodeOffTime hb n =>
      refine ended ?_ next
      unfold lostNodeOffTime
      split
      · exact h
      · exact (confirmLost_keeps _ _ _).membersDerived ((advanceTo_keeps s _).membersDerived h)
    | memberDeadTimeEnd m =>
      refine ended ?_ next
      unfold memberDeadTime
      split
      · split
        · exact (setProgress_keeps _ _).membersDerived ((advanceTo_keeps s _).membersDerived h)
        · exact h
      all_goals exact h
    | confirmDeadline =>
      refine ended ?_ next
      unfold confirmLate
      split
      · exact (endToIdle_keeps _ _ _ _).membersDerived ((advanceTo_keeps s _).membersDerived h)
      all_goals exact h
    | turnDeadline =>
      refine ended ?_ next
      unfold turnLate
      split
      · exact (abortOrder_keeps _ _ _).membersDerived ((advanceTo_keeps s _).membersDerived h)
      all_goals exact h
    | stepDeadTimeEnd hb =>
      refine ended ?_ next
      unfold stepDeadTime
      split
      · exact h
      split
      · exact (driveStep_keeps _ _ _).membersDerived ((advanceTo_keeps s _).membersDerived h)
      · exact h
    | setDeadline hb =>
      refine ended ?_ next
      unfold setLate
      split
      · exact h
      · exact (abortSetOp_keeps _ _ _).membersDerived ((advanceTo_keeps s _).membersDerived h)
    | cabRawChange input on =>
      refine ended ?_ next
      unfold cabRaw
      split
      · exact h
      · exact (updateCab_keeps _ _ _).membersDerived h
    | cabDebounceEnd input =>
      refine ended ?_ next
      unfold cabDebounceEnd
      simp only
      split
      · exact h
      · have settled : MembersDerived (settleCab input (advanceTo ‹Nat› s)) :=
          (updateCab_keeps _ _ _).membersDerived ((advanceTo_keeps s _).membersDerived h)
        split
        · unfold handOnCab
          split
          · exact (pressOrder_keeps _ _).membersDerived settled
          · exact (pressOrder_keeps _ _).membersDerived settled
          · exact (pressConfirm_keeps _).membersDerived settled
          · exact (leaveBypass_keeps _ _).membersDerived settled
          all_goals exact settled
        · exact settled
    | flashClock => exact ended (MembersDerived.outside (s := s) h) next
    | _ => cases hq

/-- Settles O9: every command keeps the member table derived, and a step on an empty queue touches nothing it is derived
from. -/
theorem stepKeepsMembersDerived : Obligations.StepKeepsMembersDerived := by
  intro s t h stepped
  unfold step at stepped
  split at stepped
  · cases stepped
    exact h.outside
  · next c rest _ => exact exec_membersDerived (MembersDerived.outside (s := s) (t := { s with pending := rest }) h) stepped

end Sys2Proof.Machine
end

section
/-! SUPPORT. The end of every action, part by part: the output images and what the arbiters begin, the notices, the signal
records and the transmit line; that it is settled after one pass; the statements about it. -/

namespace Sys2Proof.Machine

-- One theorem at a time: proofs that wait for one another hold a thread each.
set_option Elab.async false

/-! ## One bus -/

theorem updateBus_self {hb : Headblock} {f : Bus → Bus} {s : State} (h : f (s.bus.get hb) = s.bus.get hb) :
    updateBus hb f s = s := by
  have same : s.bus.set hb (f (s.bus.get hb)) = s.bus := PerHead.ext_get fun k => by
    rw [PerHead.get_set, h]
    split
    · next here => rw [here]
    · rfl
  unfold updateBus
  rw [same]

theorem updateNodes_self {f : NodeIx → Option NodeRec → Option NodeRec} {b : Bus} (h : ∀ n, f n (b.node n) = b.node n) :
    b.updateNodes f = b := by
  have same : (Vector.ofFn fun n => f n (b.node n)) = b.nodes := ext_get fun n => by rw [get_ofFn, h]; rfl
  unfold Bus.updateNodes
  rw [same]

theorem bus_updateBus_other {hb h : Headblock} (other : h ≠ hb) (f : Bus → Bus) (s : State) :
    (updateBus hb f s).bus.get h = s.bus.get h := by
  rw [bus_updateBus, if_neg other]

/-! ## Output images (R62) -/

theorem imageOf_congr {s t : State} (pairs : t.pairs = s.pairs) (hb : Headblock) (n : NodeIx) :
    t.imageOf hb n = s.imageOf hb n := by
  simp only [State.imageOf, State.pair, pairs]

theorem bus_syncBus (hb h : Headblock) (s : State) : (syncBus hb s).bus.get h =
    if h = hb then
      { (s.bus.get hb).updateNodes (fun n r => r.map fun r => { r with output := s.imageOf hb n }) with
        urgent := (s.bus.get hb).urgent ++
          (List.finRange 7).filter fun n => s.imageChanged hb n && !(s.bus.get hb).urgent.contains n }
    else s.bus.get h := bus_updateBus hb h _ s

/-- What both syncs leave on a bus: its images written, its changed nodes marked. -/
theorem bus_grouped (hb : Headblock) (s : State) : (grouped s).bus.get hb =
    { (s.bus.get hb).updateNodes (fun n r => r.map fun r => { r with output := s.imageOf hb n }) with
      urgent := (s.bus.get hb).urgent ++
        (List.finRange 7).filter fun n => s.imageChanged hb n && !(s.bus.get hb).urgent.contains n } := by
  show (syncBus .b (syncBus .a s)).bus.get hb = _
  rw [bus_syncBus]
  cases hb with
  | a => rw [if_neg (by decide), bus_syncBus, if_pos rfl]
  | b =>
    have other : (syncBus .a s).bus.get .b = s.bus.get .b := by rw [bus_syncBus, if_neg (by decide)]
    have changed : ∀ n, (syncBus .a s).imageChanged .b n = s.imageChanged .b n := fun n => by
      simp only [State.imageChanged, State.node, other, imageOf_congr ((syncBus_keeps s .a).pairs_eq)]
    rw [if_pos rfl]
    simp only [other, changed, imageOf_congr ((syncBus_keeps s .a).pairs_eq)]

theorem node_grouped (s : State) (hb : Headblock) (n : NodeIx) :
    (grouped s).node hb n = (s.node hb n).map fun r => { r with output := s.imageOf hb n } := by
  rw [State.node, bus_grouped]
  exact node_updateNodes _ _ _

/-! ## What an arbiter does -/

/-- R140: a bus with a frame in flight, or one for which nothing is to be sent, stays as it is; else a frame begins. -/
theorem arbitrate_cases (hb : Headblock) (s : State) :
    (arbitrate hb s = s ∧ ((s.bus.get hb).flight ≠ none ∨ s.choice hb = none)) ∨
    (s.bus.get hb).flight = none ∧
      ((∃ n, s.choice hb = some (.exchange n) ∧ arbitrate hb s = beginExchange hb n s) ∨
        (∃ n, s.choice hb = some (.identify n) ∧ arbitrate hb s = beginIdentify hb n s) ∨
        ∃ d rowTwo, s.choice hb = some (.diag d rowTwo) ∧ arbitrate hb s = beginDiag hb d rowTwo s) := by
  cases flight : (s.bus.get hb).flight with
  | some f => exact .inl ⟨by simp only [arbitrate, flight], .inl (by simp)⟩
  | none =>
    cases choice : s.choice hb with
    | none => exact .inl ⟨by simp only [arbitrate, flight, choice], .inr rfl⟩
    | some c =>
      refine .inr ⟨rfl, ?_⟩
      cases c with
      | exchange n => exact .inl ⟨n, rfl, by simp only [arbitrate, flight, choice]⟩
      | identify n => exact .inr (.inl ⟨n, rfl, by simp only [arbitrate, flight, choice]⟩)
      | diag d rowTwo => exact .inr (.inr ⟨d, rowTwo, rfl, by simp only [arbitrate, flight, choice]⟩)

theorem bus_arbitrate_other {hb h : Headblock} (other : h ≠ hb) (s : State) :
    (arbitrate hb s).bus.get h = s.bus.get h := by
  rcases arbitrate_cases hb s with ⟨same, -⟩ | ⟨-, ⟨n, -, begun⟩ | ⟨n, -, begun⟩ | ⟨d, rowTwo, -, begun⟩⟩
  · rw [same]
  all_goals rw [begun]; exact bus_updateBus_other other _ s

theorem flight_beginExchange (hb : Headblock) (n : NodeIx) (s : State) :
    ((beginExchange hb n s).bus.get hb).flight =
      some (newFlight n (.exchange (s.carriedImage hb n) (byte (s.timing.period / 5)))) := by
  rw [beginExchange, bus_updateBus, if_pos rfl]

theorem flight_beginIdentify (hb : Headblock) (n : NodeIx) (s : State) :
    ((beginIdentify hb n s).bus.get hb).flight = some (newFlight n .identify) := by
  rw [beginIdentify, bus_updateBus, if_pos rfl]

theorem flight_beginDiag (hb : Headblock) (d : Transfer) (rowTwo : Bool) (s : State) :
    ((beginDiag hb d rowTwo s).bus.get hb).flight = some (newFlight d.node (.diagRead (byte d.next))) := by
  rw [beginDiag, bus_updateBus, if_pos rfl]

/-- After its arbiter a bus has a frame in flight, or the arbiter left everything and has nothing to send. -/
theorem arbitrate_busy_or_idle (hb : Headblock) (s : State) :
    ((arbitrate hb s).bus.get hb).flight ≠ none ∨ arbitrate hb s = s ∧ s.choice hb = none := by
  rcases arbitrate_cases hb s with ⟨same, busy | idle⟩ | ⟨-, ⟨n, -, begun⟩ | ⟨n, -, begun⟩ | ⟨d, rowTwo, -, begun⟩⟩
  · rw [same]; exact .inl busy
  · exact .inr ⟨same, idle⟩
  · rw [begun, flight_beginExchange]; exact .inl (by simp)
  · rw [begun, flight_beginIdentify]; exact .inl (by simp)
  · rw [begun, flight_beginDiag]; exact .inl (by simp)

/-- The choice for a bus reads that bus, its attachment manager and the times. -/
theorem choice_congr {s t : State} {hb : Headblock} (bus : t.bus.get hb = s.bus.get hb)
    (attach : t.attach.get hb = s.attach.get hb) (time : t.time = s.time) (timing : t.timing = s.timing) :
    t.choice hb = s.choice hb := by
  have since : t.periodSince = s.periodSince := funext fun o => by simp only [State.periodSince, time, timing]
  have due : t.nodeIsDue hb = s.nodeIsDue hb := funext fun n => by simp only [State.nodeIsDue, State.node, bus, since]
  simp only [State.choice, State.choiceInService, State.firstDue, State.attachState, bus, attach, timing, since, due]

theorem arbitrate_of_busy {hb : Headblock} {s : State} (h : (s.bus.get hb).flight ≠ none) : arbitrate hb s = s := by
  rcases arbitrate_cases hb s with ⟨same, -⟩ | ⟨free, -⟩
  · exact same
  · exact absurd free h

theorem arbitrate_of_idle {hb : Headblock} {s : State} (h : s.choice hb = none) : arbitrate hb s = s := by
  rcases arbitrate_cases hb s with ⟨same, -⟩ | ⟨-, ⟨n, c, -⟩ | ⟨n, c, -⟩ | ⟨d, r, c, -⟩⟩
  · exact same
  all_goals rw [h] at c; cases c

/-! ## The transmit line (R167) -/

theorem nextTx_nextTx (tx : TxLine) (reply : Option Reply) (queue : List Notice) :
    nextTx (nextTx tx reply queue) reply queue = nextTx tx reply queue := by
  cases tx <;> cases reply <;> cases queue <;> rfl

theorem transmit_tx (s : State) : (transmit s).link.tx = nextTx s.link.tx s.link.reply s.notices.queue := rfl

theorem sent_tx (s : State) : (sent s).link.tx = nextTx s.link.tx s.link.reply s.notices.queue := by
  have arbitrated : keeps [.traffic] s (arbitrate .b (arbitrate .a s)) := (arbitrate_keeps s .a).trans (arbitrate_keeps _ .b)
  rw [sent, transmit_tx, arbitrated.tx_eq, arbitrated.reply_eq, arbitrated.notices_eq]

/-! ## The parts of an action's end -/

/-- The state before the arbiters and the line: group, permits and lamps evaluated, signals still to be taken. -/
def evaluated (old s : State) : State := evalLamps (evalPermits (postGroup old (grouped s)))

theorem finish_eq_evaluated (old s : State) : finish old s = sent (takeSignals (evaluated old s)) := rfl

theorem grouped_evaluated_keeps (old s : State) : keeps [.notices, .permits, .lamps] (grouped s) (evaluated old s) :=
  ((postGroup_keeps _ old).then (b := [.permits, .notices]) (l := [.notices, .permits]) (evalPermits_keeps _)).then
    (evalLamps_keeps _)

theorem grouped_keeps (s : State) : keeps [.traffic, .groupState] s (grouped s) :=
  ((syncBus_keeps s .a).trans (syncBus_keeps _ .b)).then (evalGroup_keeps _)

theorem evaluated_finish_keeps (old s : State) :
    keeps [.signals, .notices, .traffic, .tx] (evaluated old s) (finish old s) :=
  (takeSignals_keeps _).then (sent_keeps _)

theorem finish_tx (old s : State) :
    (finish old s).link.tx = nextTx s.link.tx (finish old s).link.reply (finish old s).notices.queue := by
  have before : keeps [.traffic, .groupState, .notices, .permits, .lamps, .signals] s (takeSignals (evaluated old s)) :=
    (grouped_keeps s).then (a := [.traffic, .groupState]) (b := [.notices, .permits, .lamps, .signals])
      ((grouped_evaluated_keeps old s).then (takeSignals_keeps _))
  rw [finish_reply, finish_eq_evaluated, sent_tx, (sent_keeps _).notices_eq, before.tx_eq, before.reply_eq]

/-! ## The images after an action -/

/-- R62: after an action a node's output image is the one its pairs' commands give. -/
theorem output_sent {s : State} {hb : Headblock} {n : NodeIx} :
    ((sent s).node hb n).map NodeRec.output = (s.node hb n).map NodeRec.output := by
  have one : ∀ (h : Headblock) (u : State), ((arbitrate h u).node hb n).map NodeRec.output =
      (u.node hb n).map NodeRec.output := by
    intro h u
    by_cases here : hb = h
    · subst here
      rcases arbitrate_cases hb u with ⟨same, -⟩ | ⟨-, ⟨m, -, begun⟩ | ⟨m, -, begun⟩ | ⟨d, rowTwo, -, begun⟩⟩
      · rw [same]
      · rw [begun]
        simp only [State.node, beginExchange, bus_updateBus, if_pos]
        show (((u.bus.get hb).updateNode m _).node n).map _ = _
        rw [Bus.updateNode, node_updateNodes]
        split
        · rw [Option.map_map]; rfl
        · rfl
      · rw [begun, beginIdentify, State.node, bus_updateBus, if_pos rfl]; rfl
      · rw [begun, beginDiag, State.node, bus_updateBus, if_pos rfl]; rfl
    · rw [State.node, bus_arbitrate_other here]; rfl
  show ((arbitrate .b (arbitrate .a s)).node hb n).map _ = _
  rw [one, one]

theorem finish_output {old s : State} {hb : Headblock} {n : NodeIx} {r : NodeRec}
    (h : (finish old s).node hb n = some r) : r.output = (finish old s).imageOf hb n := by
  rw [imageOf_congr (finish_pairs s old)]
  have bus : (takeSignals (evaluated old s)).bus = (grouped s).bus :=
    ((grouped_evaluated_keeps old s).then (l := [.notices, .permits, .lamps, .signals]) (takeSignals_keeps _)).traffic_eq
  have output := congrArg (Option.map NodeRec.output) h
  rw [finish_eq_evaluated, output_sent, State.node, bus] at output
  change ((grouped s).node hb n).map NodeRec.output = _ at output
  rw [node_grouped, Option.map_map, Option.map_some] at output
  cases found : s.node hb n with
  | none => rw [found] at output; cases output
  | some q =>
    rw [found] at output
    exact (Option.some.inj output).symm

/-! ## The signals after an action (R178) -/

theorem nodeSignal_congr {s t : State} {hb : Headblock} {n : NodeIx}
    (node : (t.node hb n).map NodeRec.received = (s.node hb n).map NodeRec.received) (bit : Nat) :
    t.nodeSignal hb n bit = s.nodeSignal hb n bit := by
  have read : ∀ u : State, u.nodeSignal hb n bit = match (u.node hb n).map NodeRec.received with
      | some r => if r.signalsKnown then r.input.map (·.getLsbD bit) else none
      | none => none := fun u => by
    unfold State.nodeSignal
    cases u.node hb n <;> rfl
  rw [read, read, node]

/-- A signal's value reads the cab, the plugs, the chain, the nodes and the permits. -/
theorem keeps.signalValue {l : List Field} {s t : State} (k : keeps l s t) (i : Fin 103)
    (cab : Field.cab ∉ l := by decide) (attach : Field.attach ∉ l := by decide) (trip : Field.trip ∉ l := by decide)
    (nodes : Field.nodes ∉ l := by decide) (permits : Field.permits ∉ l := by decide) :
    t.signalValue i = s.signalValue i := by
  simp only [State.signalValue, k.cab_eq cab, k.attach_eq attach, k.trip_eq trip, k.permits_eq permits,
    nodeSignal_congr (k .nodes nodes _ _)]

theorem takeSignals_signals (s : State) (i : Fin 103) :
    (takeSignals s).signals.get i = (s.signals.get i).follow (s.signalValue i) := by
  rw [takeSignals, postAll_signals]
  exact get_ofFn _ i

theorem evaluated_signals (old s : State) : (evaluated old s).signals = s.signals :=
  (grouped_evaluated_keeps old s).signals_eq.trans (grouped_keeps s).signals_eq

theorem finish_signals (old s : State) (i : Fin 103) :
    (finish old s).signals.get i = (s.signals.get i).follow ((finish old s).signalValue i) := by
  rw [(evaluated_finish_keeps old s).signalValue i, finish_eq_evaluated, (sent_keeps _).signals_eq, takeSignals_signals,
    evaluated_signals]

theorem SignalRec.follow_follow (r : SignalRec) (v : Option Bool) : (r.follow v).follow v = r.follow v := by
  cases v with
  | some b => rfl
  | none =>
    unfold follow
    cases h : r.value.isSome <;> simp [h]

theorem SignalRec.change_follow (r : SignalRec) (v : Option Bool) : (r.follow v).change v = none := by
  cases v with
  | some b => simp [follow, change]
  | none => unfold change; split <;> simp_all

/-! ## Nothing is left after one pass (O11) -/

theorem syncBus_of_written {s : State} {hb : Headblock}
    (h : ∀ n r, s.node hb n = some r → r.output = s.imageOf hb n) : syncBus hb s = s := by
  have unchanged : ∀ n, s.imageChanged hb n = false := fun n => by
    unfold State.imageChanged
    cases found : s.node hb n with
    | none => rfl
    | some r => simp [h n r found]
  refine updateBus_self ?_
  have nodes : (s.bus.get hb).updateNodes (fun n r => r.map fun r => { r with output := s.imageOf hb n }) = s.bus.get hb :=
    updateNodes_self fun n => by
      cases found : (s.bus.get hb).node n with
      | none => rfl
      | some r => rw [Option.map_some, ← h n r found]
  rw [nodes]
  simp [unchanged]

theorem evalGroup_finish (old s : State) : evalGroup (finish old s) = finish old s := by
  have state : (finish old s).groupStateOf (finish old s).group.members = (finish old s).group.state := by
    rw [finish_groupState, finish_memberList,
      (groupStateOf_summaryOf_congr (finish_members s old) (finish_pairs s old) _).1]
  have summary : (finish old s).summaryOf (finish old s).group.members = (finish old s).group.summary := by
    rw [finish_summary, finish_memberList,
      (groupStateOf_summaryOf_congr (finish_members s old) (finish_pairs s old) _).2]
  rw [evalGroup, state, summary]

theorem evalPermits_finish (old s : State) : evalPermits (finish old s) = finish old s := by
  have permits := finish_permits old s
  have none : (finish old s).permitNotices = [] := by
    simp [State.permitNotices, permits]
  rw [evalPermits, none, ← permits]
  rfl

theorem takeSignals_finish (old s : State) : takeSignals (finish old s) = finish old s := by
  have noHits : (finish old s).hits = [] := by
    simp [State.hits, State.hit, finish_signals, SignalRec.change_follow]
  have signals : (Vector.ofFn fun i => ((finish old s).signals.get i).follow ((finish old s).signalValue i)) =
      (finish old s).signals := ext_get fun i => by
    rw [get_ofFn, finish_signals, SignalRec.follow_follow]
  rw [takeSignals, noHits, signals]
  rfl

theorem choice_transmit (s : State) (hb : Headblock) : (transmit s).choice hb = s.choice hb := choice_congr rfl rfl rfl rfl

theorem arbitrate_sent (s : State) (hb : Headblock) : arbitrate hb (sent s) = sent s := by
  have line : ∀ h, (sent s).bus.get h = (arbitrate .b (arbitrate .a s)).bus.get h := fun _ => rfl
  cases hb with
  | b =>
    rcases arbitrate_busy_or_idle .b (arbitrate .a s) with busy | ⟨same, idle⟩
    · exact arbitrate_of_busy (by rw [line]; exact busy)
    · refine arbitrate_of_idle ?_
      rw [sent, same, choice_transmit, idle]
  | a =>
    have kept : (sent s).bus.get .a = (arbitrate .a s).bus.get .a := by
      rw [line, bus_arbitrate_other (by decide)]
    rcases arbitrate_busy_or_idle .a s with busy | ⟨same, idle⟩
    · exact arbitrate_of_busy (by rw [kept]; exact busy)
    · have keep := sent_keeps s
      refine arbitrate_of_idle ?_
      rw [choice_congr (s := s) (by rw [kept, same]) (by rw [keep.attach_eq]) keep.time_eq keep.timing_eq, idle]

theorem transmit_finish (old s : State) : transmit (finish old s) = finish old s := by
  have tx : nextTx (finish old s).link.tx (finish old s).link.reply (finish old s).notices.queue =
      (finish old s).link.tx := by
    rw [finish_tx, nextTx_nextTx]
  rw [transmit, tx]

/-- The end of an action leaves a state alone in which each of its parts finds nothing to do. -/
theorem settled_of_parts {t : State} (synced : ∀ hb, syncBus hb t = t) (group : evalGroup t = t)
    (permits : evalPermits t = t) (lamps : evalLamps t = t) (signals : takeSignals t = t)
    (arbitrated : ∀ hb, arbitrate hb t = t) (transmitted : transmit t = t) : Settled t := by
  have noNotice : postGroup t t = t := by
    rw [postGroup, if_pos ⟨rfl, rfl⟩]
    rfl
  rw [Settled, finish_eq, grouped, synced, synced, group, noNotice, permits, lamps, signals, sent, arbitrated, arbitrated,
    transmitted]

/-- Settles O11: each part of the end of an action finds its own work done. -/
theorem everyCommandSettles : Obligations.EveryCommandSettles := by
  intro c s t h
  obtain ⟨old, u, rfl⟩ := exec_next_finish h
  exact settled_of_parts (fun hb => syncBus_of_written fun n r => finish_output) (evalGroup_finish old u)
    (evalPermits_finish old u) (by rw [evalLamps, ← finish_lamps]) (takeSignals_finish old u)
    (fun hb => by rw [finish_eq_evaluated, arbitrate_sent]) (transmit_finish old u)

/-- Settles O12: the frame of the end of an action. -/
theorem endOfActionKeeps : Obligations.EndOfActionKeeps := fun old s => finish_keeps s old

/-! ## The permits (O4) -/

theorem firstFailing_cons_eq_none {α : Type} (p : Prop) [Decidable p] (a : α) (rest : List (Bool × α)) :
    firstFailing ((decide p, a) :: rest) = none ↔ p ∧ firstFailing rest = none := by
  rw [firstFailing_cons]
  by_cases h : p <;> simp [h]

theorem permitsAgree_of_causes {t : State} (permits : t.permits = ⟨t.upCause.isNone, t.downCause.isNone⟩) :
    PermitsAgree t := by
  have ops : (∀ hb ∈ headblocks, (t.setting.get hb).op = none) ↔ ∀ hb, (t.setting.get hb).op = none :=
    ⟨fun h hb => h hb (by cases hb <;> simp [headblocks]), fun h hb _ => h hb⟩
  unfold PermitsAgree
  rw [permits, Option.isNone_iff_eq_none, Option.isNone_iff_eq_none, upCause_eq_firstFailing, downCause_eq_firstFailing]
  simp only [firstFailing_cons_eq_none, firstFailing_nil, ops, and_true, and_self]

/-- Settles O4: the permits after a command have no cause, and a step on an empty queue changes nothing they depend on. -/
theorem stepKeepsPermitsAgree : Obligations.StepKeepsPermitsAgree := by
  intro s t h stepped
  unfold step at stepped
  split at stepped
  · cases stepped
    exact h
  · exact permitsAgree_of_causes (exec_permits stepped)

end Sys2Proof.Machine
end

section
/-! SUPPORT. The statements about the end of every action: the notices and the signal records, the output images, the
transmit line. -/

namespace Sys2Proof.Machine

-- One theorem at a time: proofs that wait for one another hold a thread each.
set_option Elab.async false

/-! ## Several notices -/

theorem postAll_append (bodies more : List NoticeBody) (s : State) :
    postAll (bodies ++ more) s = postAll more (postAll bodies s) := by
  unfold postAll
  rw [List.foldl_append]
  rfl

@[simp] theorem postAll_nil (s : State) : postAll [] s = s := rfl

/-- What is queued depends on the queue as it stands and on the time alone. -/
theorem notices_postAll_congr {s t : State} (notices : t.notices = s.notices) (time : t.time = s.time)
    (bodies : List NoticeBody) : (postAll bodies t).notices = (postAll bodies s).notices := by
  unfold postAll State.msTime
  rw [notices, time]

/-! ## Notices and signals (O13) -/

theorem takeSignals_notices (s : State) : (takeSignals s).notices = (postAll s.hits s).notices := by
  have signals := setSignals_keeps s (Vector.ofFn fun i => (s.signals.get i).follow (s.signalValue i))
  exact notices_postAll_congr signals.notices_eq signals.time_eq _

theorem evalPermits_notices (s : State) : (evalPermits s).notices = (postAll s.permitNotices s).notices :=
  notices_postAll_congr rfl rfl _

/-- The notices that an action's end makes of the state once images and group agree. -/
theorem finish_notices (old s : State) : (finish old s).notices =
    (postAll ((if (grouped s).mode = old.mode ∧ (grouped s).group = old.group then []
        else [.groupState (grouped s).mode (grouped s).group]) ++ (postGroup old (grouped s)).permitNotices ++
      (evaluated old s).hits) s).notices := by
  have g := grouped_keeps s
  rw [finish_eq_evaluated, (sent_keeps _).notices_eq, takeSignals_notices, postAll_append, postAll_append]
  have evaluated : (evaluated old s).notices =
      (postAll (postGroup old (grouped s)).permitNotices (postGroup old (grouped s))).notices := by
    rw [show (Machine.evaluated old s).notices = (evalPermits (postGroup old (grouped s))).notices from rfl,
      evalPermits_notices]
  refine notices_postAll_congr (evaluated.trans (notices_postAll_congr ?_ ?_ _)) ?_ _
  · rw [postGroup]
    exact notices_postAll_congr g.notices_eq g.time_eq _
  · rw [postGroup, postAll_time, postAll_time, g.time_eq]
  · rw [((g.then (l := [.traffic, .groupState, .notices, .permits, .lamps]) (grouped_evaluated_keeps old s))).time_eq]
    rfl

theorem finish_group (old s : State) : (finish old s).group = (grouped s).group := by
  have k := afterGroup_keeps old s
  cases h : (finish old s).group
  cases h' : (grouped s).group
  have members := k.memberList_eq
  have state := k.state_eq
  have summary := k.summary_eq
  simp_all

/-- A signal's hit, written out. -/
theorem hit_eq (s : State) (i : Fin 103) : s.hit i = match (s.signals.get i).value, s.signalValue i with
    | some before, some now =>
      if before ≠ now ∧ ∃ w ∈ s.watches, w.signal = i.val ∧
          (w.edge = .both ∨ (w.edge = .rise ∧ now = true) ∨ (w.edge = .fall ∧ now = false)) then
        some (.watchHit i.val now (s.signals.get i).gap)
      else none
    | _, _ => none := by
  have edge : ∀ (e : Edge) (now : Bool), e.hits now = true ↔
      (e = .both ∨ (e = .rise ∧ now = true) ∨ (e = .fall ∧ now = false)) := fun e now => by
    cases e <;> simp [Edge.hits]
  unfold State.hit SignalRec.change
  cases (s.signals.get i).value with
  | none => rfl
  | some before =>
    cases s.signalValue i with
    | none => rfl
    | some now =>
      by_cases same : before = now
      · simp [same]
      · simp [same, edge]

/-- Settles O13: the notices of an action's end in their order, and the records that follow the signals. -/
theorem noticesAndSignals : Obligations.NoticesAndSignals := by
  intro old s t level
  have mode : (grouped s).mode = t.mode := ((grouped_keeps s).mode_eq).trans (finish_mode s old).symm
  have group : (grouped s).group = t.group := (finish_group old s).symm
  have grouped := afterGroup_keeps old s
  have posted := postGroup_keeps (Machine.grouped s) old
  have ⟨up, down⟩ := causes_congr (s := t) (t := postGroup old (Machine.grouped s))
    (posted.trip_eq.trans grouped.trip_eq.symm) (posted.bypass_eq.trans grouped.bypass_eq.symm)
    (posted.order_eq.trans grouped.order_eq.symm) (posted.setting_eq.trans grouped.setting_eq.symm)
    (posted.state_eq.trans grouped.state_eq.symm)
  have before : (postGroup old (Machine.grouped s)).permits = s.permits :=
    posted.permits_eq.trans (grouped_keeps s).permits_eq
  have permits : t.permits = ⟨t.upCause.isNone, t.downCause.isNone⟩ := finish_permits old s
  have watches : (evaluated old s).watches = s.watches :=
    (grouped_evaluated_keeps old s).watches_eq.trans (grouped_keeps s).watches_eq
  have value : ∀ i, (evaluated old s).signalValue i = t.signalValue i := fun i =>
    ((evaluated_finish_keeps old s).signalValue i).symm
  refine ⟨?_, fun i => ?_⟩
  · rw [show t.notices = _ from finish_notices old s, mode, group, State.permitNotices, up, down, before, State.hits]
    simp only [hit_eq, evaluated_signals, value, watches, level, permits, List.append_assoc] <;>
      rfl
  · rw [show t.signals.get i = _ from finish_signals old s i]
    refine ⟨fun v known => by rw [show (finish old s).signalValue i = some v from known]; rfl, fun unknown => ?_⟩
    rw [show (finish old s).signalValue i = none from unknown]
    unfold SignalRec.follow
    cases h : (s.signals.get i).value.isSome <;> simp

/-! ## Output images (O14) -/

/-- Table 3-3: a node serves two pairs, one in the low bits of its image and one in the high bits, or none. -/
theorem nodePairs_eq (hb : Headblock) (n : NodeIx) :
    (n.val < 5 ∧ ∃ low high, nodePairs hb n = [low, high] ∧ low.low = true ∧ high.low = false) ∨
      (5 ≤ n.val ∧ nodePairs hb n = []) := by
  unfold nodePairs
  by_cases corner : n.val < 4
  · refine .inl ⟨by omega, _, _, dif_pos corner, by simp [PairId.low, corner], ?_⟩
    simp only [PairId.low, Bool.or_eq_false_iff, decide_eq_false_iff_not, beq_eq_false_iff_ne]
    omega
  · rw [dif_neg corner]
    by_cases body : n.val = 4
    · exact .inl ⟨by omega, telescope hb, twinGear hb, if_pos body, rfl, rfl⟩
    · exact .inr ⟨by omega, if_neg body⟩

theorem imageEcho_low (low high : Command) {p : PairId} (h : p.low = true) :
    imageEcho p (low.bits ||| (high.bits <<< 2)) = low.echo := by
  unfold imageEcho
  rw [if_pos h]
  rcases low with _ | (_ | _) <;> rcases high with _ | (_ | _) <;> rfl

theorem imageEcho_high (low high : Command) {p : PairId} (h : p.low = false) :
    imageEcho p (low.bits ||| (high.bits <<< 2)) = high.echo := by
  unfold imageEcho
  rw [if_neg (by rw [h]; decide)]
  rcases low with _ | (_ | _) <;> rcases high with _ | (_ | _) <;> rfl

theorem bits_getLsbD_high (low high : Command) {i : Nat} (h : 4 ≤ i) :
    (low.bits ||| (high.bits <<< 2)).getLsbD i = false := by
  have small : (low.bits ||| (high.bits <<< 2)).toNat < 2 ^ 4 := by
    rcases low with _ | (_ | _) <;> rcases high with _ | (_ | _) <;> decide
  exact Nat.testBit_lt_two_pow (small.trans_le (Nat.pow_le_pow_right (by decide) h))

/-- R62: what the image built from the commands carries. -/
theorem imageOf_carries (s : State) (hb : Headblock) (n : NodeIx) :
    (∀ p ∈ nodePairs hb n, imageEcho p (s.imageOf hb n) = (s.pair p).command.echo) ∧
      (∀ i, 4 ≤ i → (s.imageOf hb n).getLsbD i = false) ∧ (5 ≤ n.val → s.imageOf hb n = 0) := by
  rcases nodePairs_eq hb n with ⟨small, low, high, pairs, isLow, isHigh⟩ | ⟨-, pairs⟩
  · have image : s.imageOf hb n = (s.pair low).command.bits ||| ((s.pair high).command.bits <<< 2) := by
      rw [State.imageOf, pairs]
    rw [image, pairs]
    refine ⟨fun p hp => ?_, fun i hi => bits_getLsbD_high _ _ hi, fun large => absurd small (by omega)⟩
    rcases List.mem_pair.1 hp with rfl | rfl
    · exact imageEcho_low _ _ isLow
    · exact imageEcho_high _ _ isHigh
  · have image : s.imageOf hb n = 0 := by rw [State.imageOf, pairs]
    rw [image, pairs]
    exact ⟨by simp, fun i _ => by simp, fun _ => rfl⟩

/-- A bus after the arbiters: what its own arbiter made of it, in a state that differs at most in the other bus. -/
theorem bus_sent (s : State) (hb : Headblock) :
    ∃ u, keeps [.traffic] s u ∧ u.bus.get hb = s.bus.get hb ∧ (sent s).bus.get hb = (arbitrate hb u).bus.get hb := by
  have line : ∀ h, (sent s).bus.get h = (arbitrate .b (arbitrate .a s)).bus.get h := fun _ => rfl
  cases hb with
  | a => exact ⟨s, keeps.refl _ s, rfl, by rw [line, bus_arbitrate_other (by decide)]⟩
  | b => exact ⟨arbitrate .a s, arbitrate_keeps s .a, bus_arbitrate_other (by decide) s, line .b⟩

/-- R140, R141: a marked node stays marked until a frame to it begins. -/
theorem urgent_arbitrate {s : State} {hb : Headblock} {n : NodeIx} (marked : n ∈ (s.bus.get hb).urgent) :
    n ∈ ((arbitrate hb s).bus.get hb).urgent ∨ ((arbitrate hb s).bus.get hb).flight =
      some (newFlight n (.exchange (s.carriedImage hb n) (byte (s.timing.period / 5)))) := by
  rcases arbitrate_cases hb s with ⟨same, -⟩ | ⟨-, ⟨m, -, begun⟩ | ⟨m, -, begun⟩ | ⟨d, rowTwo, -, begun⟩⟩
  · rw [same]; exact .inl marked
  · by_cases here : m = n
    · rw [begun, flight_beginExchange, here]; exact .inr rfl
    · rw [begun, beginExchange, bus_updateBus, if_pos rfl]
      exact .inl (List.mem_filter.2 ⟨marked, by simpa using fun e => here e.symm⟩)
  · rw [begun, beginIdentify, bus_updateBus, if_pos rfl]; exact .inl marked
  · rw [begun, beginDiag, bus_updateBus, if_pos rfl]; exact .inl marked

/-- R62, R141: a node whose image an action changes is marked when the arbiters are reached. -/
theorem urgent_grouped {s : State} {hb : Headblock} {n : NodeIx} {r : NodeRec} (node : s.node hb n = some r)
    (changed : r.output ≠ s.imageOf hb n) : n ∈ ((grouped s).bus.get hb).urgent := by
  rw [bus_grouped]
  have differs : s.imageChanged hb n = true := by rw [State.imageChanged, node]; simpa using changed
  by_cases marked : n ∈ (s.bus.get hb).urgent
  · exact List.mem_append_left _ marked
  · exact List.mem_append_right _ (List.mem_filter.2 ⟨List.mem_finRange n, by simp [differs, marked]⟩)

theorem noticed_bus (old s : State) : (takeSignals (evaluated old s)).bus = (grouped s).bus :=
  ((grouped_evaluated_keeps old s).then (l := [.notices, .permits, .lamps, .signals]) (takeSignals_keeps _)).traffic_eq

theorem noticed_attach (old s : State) : (takeSignals (evaluated old s)).attach = s.attach :=
  ((grouped_evaluated_keeps old s).then (l := [.notices, .permits, .lamps, .signals])
    (takeSignals_keeps _)).attach_eq.trans (grouped_keeps s).attach_eq

theorem finish_node_before {old s : State} {hb : Headblock} {n : NodeIx} {r : NodeRec}
    (h : (finish old s).node hb n = some r) : ∃ q, s.node hb n = some q := by
  have kept : ((finish old s).node hb n).map NodeRec.received = (s.node hb n).map NodeRec.received :=
    finish_keeps s old .nodes (by decide) hb n
  rw [h] at kept
  cases found : s.node hb n with
  | none => rw [found] at kept; cases kept
  | some q => exact ⟨q, rfl⟩

/-- Settles O14: the image is the one the commands give, and a changed node is marked or its frame has begun. -/
theorem outputImages : Obligations.OutputImages := by
  intro old s hb n r t node
  have output : r.output = s.imageOf hb n := by
    rw [← imageOf_congr (finish_pairs s old)]
    exact finish_output node
  obtain ⟨carries, high, unserved⟩ := imageOf_carries s hb n
  rw [output]
  refine ⟨fun p hp => ?_, high, unserved, fun changed => ?_⟩
  · rw [carries p hp, show t.pair p = s.pair p from finish_pair s old p]
  obtain ⟨q, found⟩ := finish_node_before node
  have marked := urgent_grouped found fun e => changed (by rw [found, Option.map_some, e])
  obtain ⟨u, kept, bus, after⟩ := bus_sent (takeSignals (evaluated old s)) hb
  have before : u.bus.get hb = (grouped s).bus.get hb := by rw [bus, noticed_bus]
  have attach : u.attachState hb = (t.attach.get hb).state := by
    rw [State.attachState, kept.attach_eq, noticed_attach, show t.attach = s.attach from finish_attach s old]
  have image : u.node hb n = some { q with output := s.imageOf hb n } := by
    rw [State.node, before]
    exact (node_grouped s hb n).trans (by rw [found, Option.map_some])
  rw [show t.bus.get hb = (arbitrate hb u).bus.get hb from (by rw [show t = _ from finish_eq_evaluated old s, after])]
  rcases urgent_arbitrate (s := u) (by rw [before]; exact marked) with still | begun
  · exact .inl still
  · refine .inr ⟨_, byte (u.timing.period / 5), begun, rfl, rfl, ?_⟩
    show FrameKind.exchange (u.carriedImage hb n) _ = _
    rw [State.carriedImage, image, attach]
    rfl

/-! ## The transmit line (O18) -/

/-- Settles O18: `nextTx` case by case; the head notice leaves the queue at the end of its frame. -/
theorem transmitRule : Obligations.TransmitRule := by
  refine ⟨fun old s => ?_, fun s => ⟨fun line => ?_, fun line => ?_⟩⟩
  · simp only [finish_tx old s]
    refine ⟨fun busy => ?_, fun free reply => ?_, fun free reply notice => ?_, fun free reply notice => ?_⟩
    · cases h : s.link.tx with
      | idle => exact absurd h busy
      | reply => rfl
      | notice => rfl
    · obtain ⟨r, hr⟩ := Option.ne_none_iff_exists'.1 reply
      rw [free, hr]; rfl
    · obtain ⟨head, rest, hq⟩ := List.exists_cons_of_ne_nil notice
      rw [free, reply, hq]; rfl
    · rw [free, reply, notice]; rfl
  · show execNoticeSent s = _
    rw [execNoticeSent, noticeSent, if_pos line]
  · show execNoticeSent s = _
    rw [execNoticeSent, noticeSent, if_neg line]

end Sys2Proof.Machine
end

section
/-! SUPPORT. What the arbiter of a bus chooses and begins, and the statement about it. -/

namespace Sys2Proof.Machine

-- One theorem at a time: proofs that wait for one another hold a thread each.
set_option Elab.async false

/-! ## What is due -/

theorem periodSince_iff (s : State) (o : Option Nat) :
    s.periodSince o = true ↔ ∀ begun, o = some begun → begun + s.timing.period ≤ s.time := by
  cases o <;> simp [State.periodSince]

theorem nodeIsDue_iff (s : State) (hb : Headblock) (n : NodeIx) : s.nodeIsDue hb n = true ↔
    ∃ r, (s.bus.get hb).node n = some r ∧ ∀ begun, r.lastBegun = some begun → begun + s.timing.period ≤ s.time := by
  rw [State.nodeIsDue, State.node]
  cases (s.bus.get hb).node n with
  | none => simp
  | some r => simp [periodSince_iff]

theorem firstDue_eq_none {s : State} {hb : Headblock} (h : ∀ n, ¬s.nodeIsDue hb n = true) : s.firstDue hb = none :=
  List.find?_eq_none.2 fun n _ => h n

theorem firstDue_ne_none {s : State} {hb : Headblock} {n : NodeIx} (h : s.nodeIsDue hb n = true) :
    ∃ m, s.firstDue hb = some m :=
  Option.ne_none_iff_exists'.1 fun none => List.find?_eq_none.1 none n (List.mem_finRange n) h

theorem firstDue_eq_some {s : State} {hb : Headblock} {n : NodeIx} (due : s.nodeIsDue hb n = true)
    (first : ∀ m, m < n → ¬s.nodeIsDue hb m = true) : s.firstDue hb = some n := by
  obtain ⟨m, found⟩ := firstDue_ne_none due
  have isDue : s.nodeIsDue hb m = true := List.find?_some found
  rcases lt_trichotomy m n with less | rfl | greater
  · exact absurd isDue (first m less)
  · exact found
  · obtain ⟨-, before, after, split, none⟩ := List.find?_eq_some_iff_append.1 found
    have sorted : (List.finRange 7).Pairwise (· < ·) := List.pairwise_lt_finRange 7
    have mem : n ∈ before ++ m :: after := split ▸ List.mem_finRange n
    rw [split] at sorted
    rcases List.mem_append.1 mem with inBefore | inAfter
    · have := none n inBefore
      simp [due] at this
    · rcases List.mem_cons.1 inAfter with rfl | later
      · exact found
      · have after := (List.pairwise_cons.1 (List.pairwise_append.1 sorted).2.1).1 n later
        exact absurd greater after.not_gt

/-! ## What begins -/

section
variable {s : State} {hb : Headblock} (free : (s.bus.get hb).flight = none)
include free

theorem arbitrate_exchange {n : NodeIx} (choice : s.choice hb = some (.exchange n)) :
    arbitrate hb s = beginExchange hb n s := by simp only [arbitrate, free, choice]

theorem arbitrate_identify {n : NodeIx} (choice : s.choice hb = some (.identify n)) :
    arbitrate hb s = beginIdentify hb n s := by simp only [arbitrate, free, choice]

theorem arbitrate_diag {d : Transfer} {rowTwo : Bool} (choice : s.choice hb = some (.diag d rowTwo)) :
    arbitrate hb s = beginDiag hb d rowTwo s := by simp only [arbitrate, free, choice]

end

theorem choice_inService {s : State} {hb : Headblock}
    (h : (s.attach.get hb).state = .identified ∨ (s.attach.get hb).state = .armed) :
    s.choice hb = s.choiceInService hb := by
  rcases h with h | h <;> simp only [State.choice, State.attachState, h]

/-- R142, R143: an exchange of a node in the table, its image that of R143. -/
theorem beginExchange_begins {s : State} {hb : Headblock} {n : NodeIx} {r : NodeRec}
    (node : (s.bus.get hb).node n = some r) :
    ((beginExchange hb n s).bus.get hb).flight = some ⟨n, .exchange
        (if (s.attach.get hb).state = .armed then r.output else 0) (byte (s.timing.period / 5)),
        .sending, 0, false, false, false, false⟩ ∧
      (beginExchange hb n s).node hb n = some { r with lastBegun := some s.time } ∧
      ((beginExchange hb n s).bus.get hb).urgent = (s.bus.get hb).urgent.filter (· ≠ n) := by
  refine ⟨?_, ?_, ?_⟩
  · rw [flight_beginExchange, State.carriedImage, State.node, node]
    rfl
  · rw [State.node, beginExchange, bus_updateBus, if_pos rfl]
    show ((s.bus.get hb).updateNode n _).node n = _
    rw [Bus.updateNode, node_updateNodes, if_pos rfl, node, Option.map_some]
  · rw [beginExchange, bus_updateBus, if_pos rfl]
    exact List.filter_congr fun m _ => by rw [bne, beq_eq_decide, decide_not]

/-- Settles O25: the two tables of the arbiter, row by row. -/
theorem arbiterChoice : Obligations.ArbiterChoice := by
  intro s hb b t since due begins exchanges inService
  have isDue : ∀ n, s.nodeIsDue hb n = true ↔ due n := nodeIsDue_iff s hb
  have isSince : ∀ o, s.periodSince o = true ↔ since o := periodSince_iff s
  have exchange : ∀ n, (s.bus.get hb).flight = none → b.node n ≠ none → s.choice hb = some (.exchange n) →
      exchanges n := fun n free present choice => by
    obtain ⟨r, node⟩ := Option.ne_none_iff_exists'.1 present
    have begun : t = beginExchange hb n s := arbitrate_exchange free choice
    exact ⟨r, node, by simpa only [begins, begun] using beginExchange_begins node⟩
  have flies : ∀ n kind u, t = u → (u.bus.get hb).flight = some (newFlight n kind) → begins n kind :=
    fun n kind u same flight => by
      show (t.bus.get hb).flight = _
      rw [same, flight]
      rfl
  have present : ∀ n, due n → b.node n ≠ none := by
    rintro n ⟨r, node, -⟩
    rw [node]; simp
  have diag : ∀ d rowTwo, (s.bus.get hb).flight = none → s.choice hb = some (.diag d rowTwo) →
      begins d.node (.diagRead (byte d.next)) ∧
        (t.bus.get hb).transfer = some { d with rowTwo := if rowTwo then some s.time else d.rowTwo } :=
    fun d rowTwo free choice => by
      have begun : t = beginDiag hb d rowTwo s := arbitrate_diag free choice
      refine ⟨?_, ?_⟩
      · exact flies _ _ _ begun (flight_beginDiag hb d rowTwo s)
      · rw [begun, beginDiag, bus_updateBus, if_pos rfl]
  refine ⟨fun busy => arbitrate_of_busy busy, fun free c census state => ?_, fun free prior state => ⟨fun passed => ?_,
    fun early => ?_⟩, fun free serves n rest marked node => ?_, fun free serves unmarked => ?_, fun out down asks again => ?_,
    arbitrate_keeps s hb⟩
  · have choice : s.choice hb = some (.identify c.node) := by
      rcases state with state | ⟨prior, state⟩ <;> simp only [State.choice, State.attachState, state, census, Option.map_some]
    exact flies _ _ _ (arbitrate_identify free choice) (flight_beginIdentify hb c.node s)
  · have choice : s.choice hb = some (.identify bodyNode) := by
      simp only [State.choice, State.attachState, state]
      exact if_pos ((isSince _).2 passed)
    have begun : t = beginIdentify hb bodyNode s := arbitrate_identify free choice
    refine ⟨flies _ _ _ begun (flight_beginIdentify hb bodyNode s), ?_⟩
    rw [begun, beginIdentify, bus_updateBus, if_pos rfl]
    simp only [State.attachState, state]
  · refine arbitrate_of_idle ?_
    simp only [State.choice, State.attachState, state]
    exact if_neg (mt (isSince _).1 early)
  · refine exchange n free node ?_
    have first : (s.bus.get hb).urgent.find? (fun m => ((s.bus.get hb).node m).isSome) = some n := by
      rw [show (s.bus.get hb).urgent = n :: rest from marked]
      exact List.find?_cons_of_pos (Option.isSome_iff_ne_none.2 node)
    simp only [choice_inService serves, State.choiceInService, first]
  · have none : (s.bus.get hb).urgent.find? (fun m => ((s.bus.get hb).node m).isSome) = none := by
      rw [show (s.bus.get hb).urgent = [] from unmarked]; rfl
    have choice : s.choice hb = s.choiceInService hb := choice_inService serves
    simp only [State.choiceInService, none] at choice
    refine ⟨fun d n transfer dueN shared passed => ?_, fun n dueN first closed => ?_, fun d transfer noneDue => ?_,
      fun transfer noneDue => ?_⟩
    · obtain ⟨m, found⟩ := firstDue_ne_none ((isDue n).2 dueN)
      rw [show (s.bus.get hb).transfer = some d from transfer, found] at choice
      exact diag d true free (choice.trans (if_pos ⟨shared, (isSince _).2 passed⟩))
    · have found : s.firstDue hb = some n :=
        firstDue_eq_some ((isDue n).2 dueN) fun m less => mt (isDue m).1 (first m less)
      refine exchange n free (present n dueN) ?_
      rw [found] at choice
      cases transfer : (s.bus.get hb).transfer with
      | none => rw [transfer] at choice; exact choice
      | some d =>
        rw [transfer] at choice
        refine choice.trans (if_neg ?_)
        rintro ⟨shared, passed⟩
        rcases closed d transfer with idle | early
        · rw [idle] at shared; cases shared
        · exact early ((isSince _).1 passed)
    · rw [show (s.bus.get hb).transfer = some d from transfer, firstDue_eq_none fun n => mt (isDue n).1 (noneDue n)] at choice
      exact (diag d false free choice).1
    · rw [show (s.bus.get hb).transfer = Option.none from transfer,
        firstDue_eq_none fun n => mt (isDue n).1 (noneDue n)] at choice
      exact arbitrate_of_idle choice
  · refine arbitrate_of_idle ?_
    unfold State.choice State.attachState
    cases state : (s.attach.get hb).state with
    | census => exact absurd state asks
    | identified => exact absurd (.inl state) out
    | armed => exact absurd (.inr state) out
    | linkDown prior => exact absurd state (down prior)
    | reidentify prior => exact absurd state (again prior)
    | empty => rfl
    | powering => rfl
    | attachFault cause => rfl
    | releasing next => rfl
    | off => rfl

end Sys2Proof.Machine
end

section
/-! SUPPORT. The step and the reset, the arrival of requests, their framing, and the end of a reply. -/

namespace Sys2Proof.Machine

-- One theorem at a time: proofs that wait for one another hold a thread each.
set_option Elab.async false

/-! ## The step and the reset (O1, O2, O3) -/

/-- Settles O1: `step` by the form of the queue. -/
theorem stepTakesFront : Obligations.StepTakesFront :=
  ⟨fun _ _ => rfl, fun s empty => by simp only [step, empty, idleTick]⟩

theorem reset_member (m : Member) : State.reset.member m = ⟨.unknown, .unknown⟩ := by
  rw [State.member, State.reset, PerHead.get_ofFn, get_ofFn]
  rfl

theorem reset_pair (p : PairId) : State.reset.pair p = ⟨.bothOff, false, false, false, none, none⟩ := by
  rw [State.pair, State.reset, PerHead.get_ofFn, get_ofFn]
  rfl

theorem reset_node (hb : Headblock) (n : NodeIx) : State.reset.node hb n = none := by
  rw [State.node, State.reset, PerHead.get_ofFn, Bus.reset, Bus.node]
  exact get_ofFn _ n

theorem reset_cabIn (i : CabInput) : State.reset.cabIn i = .reset false := by
  rw [State.cabIn, State.reset]
  exact get_ofFn _ i.ix

theorem reset_signal (i : Fin 103) : State.reset.signals.get i = .reset i.val := by
  rw [State.reset]
  exact get_ofFn _ i

/-- R180: the signals that are known after power-on: the plugs, the chain and the permits. -/
theorem signalRec_reset (i : Fin 103) :
    SignalRec.reset i.val = ⟨if i.val ∈ [8, 9, 10, 101, 102] then some false else none, false⟩ := by
  have known : (i.val = 8 ∨ i.val = 9 ∨ i.val = 10 ∨ 101 ≤ i.val) ↔ i.val ∈ [8, 9, 10, 101, 102] := by
    simp only [List.mem_cons, List.not_mem_nil, or_false]
    omega
  unfold SignalRec.reset
  simp only [known]

/-- Settles O2: the reset state read part by part. -/
theorem resetValues : Obligations.ResetValues := by
  refine ⟨rfl, rfl, rfl, ⟨rfl, rfl, rfl, rfl⟩, ⟨rfl, rfl, rfl⟩, ⟨rfl, rfl, rfl, fun m _ => reset_member m⟩, ⟨rfl, rfl, rfl⟩,
    fun p _ => reset_pair p, rfl, ⟨rfl, rfl, rfl, rfl⟩, fun hb _ => ?_, fun i _ => ?_, ⟨rfl, rfl⟩, fun i => ?_⟩
  · have bus : State.reset.bus.get hb = .reset := PerHead.get_ofFn _ hb
    have attach : State.reset.attach.get hb = .reset false := PerHead.get_ofFn _ hb
    have setting : State.reset.setting.get hb = .reset := PerHead.get_ofFn _ hb
    rw [bus, attach, setting]
    exact ⟨rfl, ⟨rfl, rfl, rfl, rfl, rfl⟩, reset_node hb, rfl, rfl, rfl⟩
  · rw [reset_cabIn]
    exact ⟨rfl, rfl⟩
  · rw [reset_signal, signalRec_reset]

theorem permitsAgree_reset : PermitsAgree State.reset := by
  constructor <;> simp [State.reset, TripUnit.reset]

/-- Settles O3: the base cases of the invariants. -/
theorem resetMeetsInvariants : Obligations.ResetMeetsInvariants :=
  ⟨permitsAgree_reset, holdSafe_coreInvariant.reset, coilsHeld_coreInvariant.reset.2, awaitsInHolding_coreInvariant.reset,
    holdMatchesOrder_coreInvariant.reset, membersDerived_of_unknown reset_member reset_node, withinCapacity_coreInvariant.reset⟩

/-! ## Arrival (O26) -/

theorem takeRequest_inHand {s : State} {r : Reply} (h : s.link.reply = some r) : takeRequest s = s := by
  unfold takeRequest
  rw [h]

theorem takeRequest_none {s : State} (h : s.link.queue = []) : takeRequest s = s := by
  unfold takeRequest
  rw [h]
  cases s.link.reply <;> rfl

theorem takeRequest_head {s : State} {q : Request} {rest : List Request} (free : s.link.reply = none)
    (h : s.link.queue = q :: rest) :
    takeRequest s = putReply ((answerRequest q.kind q.body s).reply q) (answerRequest q.kind q.body s).state := by
  unfold takeRequest
  rw [free, h]

/-- Settles O26: `arrive` by its two checks; a reply in hand lets the request wait. -/
theorem arrival : Obligations.Arrival := by
  intro i q s request
  rw [exec_request i q request]
  refine ⟨fun zero => ?_, fun tag full => ?_, fun tag room busy => ?_⟩
  · rw [arrive, if_pos zero]; rfl
  · rw [arrive, if_neg tag, if_neg (show ¬_ < Config.receiveCapacity from Nat.not_lt.2 full)]; rfl
  · obtain ⟨r, reply⟩ := Option.ne_none_iff_exists'.1 busy
    have inHand : (enqueue q s).link.reply = some r := reply
    rw [arrive, if_neg tag, if_pos (show _ < Config.receiveCapacity from room), takeRequest_inHand inHand]
    rfl

/-! ## The end of a reply -/

/-- The end of an action looks at its first argument's mode and group alone. -/
theorem finish_congr_old {old old' : State} (mode : old.mode = old'.mode) (group : old.group = old'.group) (s : State) :
    finish old s = finish old' s := by
  unfold finish postGroup
  rw [mode, group]

theorem restartDue_of_line {s : State} (h : s.link.tx ≠ .reply) : s.restartDue = none := by
  unfold State.restartDue
  cases line : s.link.tx with
  | reply => exact absurd line h
  | idle => rfl
  | notice => rfl

/-- R171: only the OK to a RESTART is followed by a restart. -/
theorem restartDue_of_ordinary {s : State} {r : Reply} (reply : s.link.reply = some r)
    (ordinary : ¬(r.kind = 0x04 ∧ r.status = .ok)) : s.restartDue = none := by
  unfold State.restartDue
  rw [reply]
  cases s.link.tx <;> cases s.link.queue
  case reply.cons => exact if_neg ordinary
  all_goals rfl

theorem exec_replySent_ordinary {s : State} (due : s.restartDue = none) :
    exec .replySent s = .next (finish s (replySent s)) := by
  show execReplySent s = _
  rw [execReplySent, due]

/-! ## Framing (O28) -/

theorem onEmpty_badLength {body : List Byte} (h : body.length ≠ 0) (owner : State → Response) (s : State) :
    onEmpty body owner s = refuse .badLength s := by
  unfold onEmpty; split
  · exact absurd rfl h
  · rfl

theorem onOne_badLength {body : List Byte} (h : body.length ≠ 1) (owner : Byte → State → Response) (s : State) :
    onOne body owner s = refuse .badLength s := by
  unfold onOne; split
  · exact absurd rfl h
  · rfl

theorem onTwo_badLength {body : List Byte} (h : body.length ≠ 2) (owner : Byte → Byte → State → Response) (s : State) :
    onTwo body owner s = refuse .badLength s := by
  unfold onTwo; split
  · exact absurd rfl h
  · rfl

theorem onThree_badLength {body : List Byte} (h : body.length ≠ 3) (owner : Byte → Byte → Byte → State → Response)
    (s : State) : onThree body owner s = refuse .badLength s := by
  unfold onThree; split
  · exact absurd rfl h
  · rfl

theorem onFour_badLength {body : List Byte} (h : body.length ≠ 4)
    (owner : Byte → Byte → Byte → Byte → State → Response) (s : State) : onFour body owner s = refuse .badLength s := by
  unfold onFour; split
  · exact absurd rfl h
  · rfl

theorem onTiming_badLength {body : List Byte} (h : body.length ≠ 8) (s : State) :
    onTiming body s = refuse .badLength s := by
  unfold onTiming; split
  · exact absurd rfl h
  · rfl

theorem onProfile_badLength {body : List Byte} (h : body.length ≠ 16) (s : State) :
    onProfile body s = refuse .badLength s := by
  unfold onProfile; split
  · exact absurd rfl h
  · rfl

theorem answerRequest_unknownKind {kind : Byte} (h : isRequestKind kind = false) (body : List Byte) (s : State) :
    answerRequest kind body s = refuse .unknownKind s := by
  have spelled : kind = BitVec.ofNat 8 kind.toNat := (BitVec.ofNat_toNat 8 kind).symm ▸ rfl
  unfold answerRequest
  split
  case h_27 => rfl
  all_goals
    next code =>
      rw [code] at spelled
      subst spelled
      exact absurd h (by decide)

/-- Settles O28: an unknown kind falls through the table of owners; each owner checks the length first. -/
theorem framing : Obligations.Framing := by
  intro s tag kind body free htag length
  refine ⟨fun unknown => answers_of_free rfl free htag (answerRequest_unknownKind unknown body _), fun known wrong =>
    answers_of_free rfl free htag ?_⟩
  have listed := List.contains_iff_mem.1 known
  simp only [List.mem_cons, List.not_mem_nil, or_false] at listed
  obtain rfl | rfl | rfl | rfl | rfl | rfl | rfl | rfl | rfl | rfl | rfl | rfl | rfl | rfl | rfl | rfl | rfl | rfl | rfl |
    rfl | rfl | rfl | rfl | rfl | rfl | rfl := listed
  exacts [onEmpty_badLength wrong _ _, onEmpty_badLength wrong _ _, onTiming_badLength wrong _, onOne_badLength wrong _ _,
    onOne_badLength wrong _ _, onEmpty_badLength wrong _ _, onEmpty_badLength wrong _ _, onOne_badLength wrong _ _,
    onOne_badLength wrong _ _, onEmpty_badLength wrong _ _, onEmpty_badLength wrong _ _, onEmpty_badLength wrong _ _,
    onEmpty_badLength wrong _ _, onEmpty_badLength wrong _ _, onThree_badLength wrong _ _, onProfile_badLength wrong _,
    onOne_badLength wrong _ _, onOne_badLength wrong _ _, onOne_badLength wrong _ _, onOne_badLength wrong _ _,
    onOne_badLength wrong _ _, onOne_badLength wrong _ _, onFour_badLength wrong _ _, onTwo_badLength wrong _ _,
    onOne_badLength wrong _ _, onEmpty_badLength wrong _ _]

/-- Settles O29: the part's constants, byte by byte. -/
theorem identifyPart : Obligations.IdentifyPart := fun _ _ free htag => answers_of_free rfl free htag rfl

end Sys2Proof.Machine

/-! ## The end of a reply (O27); `Machine.replySent` is the model's own -/

namespace Sys2Proof

open Machine

/-- Settles O27: the reply and its request go, and the next request is taken. -/
theorem replySent : Obligations.ReplySent := by
  refine fun s => ⟨fun line => ?_, fun r q0 line reply ordinary => ?_⟩
  · rw [exec_replySent_ordinary (restartDue_of_line line), Machine.replySent, if_neg line]
  · rw [exec_replySent_ordinary (restartDue_of_ordinary reply ordinary), Machine.replySent, if_pos line]
    refine ⟨fun queue => ?_, fun i q request tag queue => ?_, fun q rest queue => ?_⟩
    · rw [takeRequest_none (by rw [dropReply, queue]; rfl), dropReply, queue]
      rfl
    · let free : State := { s with link := { s.link with queue := [], reply := none, tx := .idle } }
      have joined : enqueue q free = dropReply s := by rw [dropReply, queue]; rfl
      rw [exec_request i q request, finish_congr_old (old := s) (old' := free) rfl rfl, arrive, if_neg tag]
      congr 2
      rw [← joined]
      exact (if_pos (show 0 < Config.receiveCapacity by decide)).symm
    · have dropped : dropReply s = { s with link := { s.link with queue := q :: rest, reply := none, tx := .idle } } := by
        rw [dropReply, queue]; rfl
      rw [dropped, takeRequest_head rfl rfl]
      rfl

end Sys2Proof
end

section
/-! SUPPORT. How the requests that read, SET_TIMING and the requests of the watch table are answered, and the statements
about them. -/

namespace Sys2Proof.Machine

-- One theorem at a time: proofs that wait for one another hold a thread each.
set_option Elab.async false

/-! ## Lists of values (R166) -/

theorem counted_map_singleton {α : Type} (l : List α) (f : α → Byte) :
    counted (l.map fun a => [f a]) = byte l.length :: l.map f := by
  rw [counted, List.length_map, ← List.flatMap_def, ← List.map_eq_flatMap]

theorem headblocks_flatMap {α : Type} (f : Headblock → List α) : headblocks.flatMap f = f .a ++ f .b := by
  simp [headblocks]

/-! ## One check of a table -/

theorem judged_cons {i : Instr} {s : State} {p : Prop} [Decidable p] {status : Status} {rest : List (Bool × Status)}
    {accepted : Prop} (fails : ¬p → refuses i s status) (passes : p → judged i s rest accepted) :
    judged i s ((decide p, status) :: rest) accepted := by
  unfold judged
  rw [firstFailing_cons]
  by_cases h : p
  · rw [if_neg (not_not.2 h)]
    exact passes h
  · rw [if_pos h]
    exact fails h

/-! ## GET_STATUS (O30) -/

/-- Settles O30: the values in Table 10-5's order. -/
theorem getStatus : Obligations.GetStatus := by
  intro s tag free htag permit head level
  refine answers_of_free rfl free htag ?_
  show answerGetStatus _ = _
  rw [answerGetStatus, headblocks_flatMap]
  simp only [List.map_cons, List.map_nil, State.permitsBytes, Timing.bytes, List.append_assoc]
  rfl

/-! ## READ_MEMBERS and READ_GROUP (O31) -/

/-- R22: the settle count of a member that is not in SETTLING is given as 0. -/
theorem count_getD (progress : Option Progress) : byte ((progress.bind Progress.count?).getD 0) =
    match progress with | some (.settling n) => byte n | _ => 0 := by
  rcases progress with _ | (_ | _ | _ | _ | _ | _) <;> rfl

theorem code_getD (progress : Option Progress) : (progress.map Progress.code).getD 6 =
    match progress with | some p => p.code | none => 6 := by
  cases progress <;> rfl

theorem flag_inGroup (s : State) (m : Member) : flag (s.inGroup m) = if m ∈ s.group.members then 1 else 0 := by
  simp [flag, State.inGroup]

theorem progressOf_eq (s : State) (m : Member) : s.progressOf m = match s.order with
    | .active _ _ oms _ | .faultHeld _ oms _ => (oms.find? fun om : OrderMember => om.member = m).map OrderMember.progress
    | _ => none := by
  unfold State.progressOf
  cases s.order <;> simp only [beq_eq_decide]

/-- R23: a member of a FAULT group is listed with the first of its three causes. -/
theorem faultList_eq (s : State) (members : List Member) :
    ((members.filter s.faulty).map fun m => [memberCode m, s.faultCause m]) =
      members.filterMap fun m => (if (s.member m).position = .unknown then some (0 : Byte)
        else if (s.member m).position = .conflict then some 1
        else if (s.pair m.pair).fault then some 2 else none).map fun c => [memberCode m, c] := by
  rw [← List.filterMap_eq_map, List.filterMap_filter]
  refine List.filterMap_congr fun m _ => ?_
  simp only [State.faulty, State.faultCause, State.latched]
  by_cases unknown : (s.member m).position = .unknown
  · simp [unknown]
  · by_cases conflict : (s.member m).position = .conflict
    · simp [conflict]
    · by_cases fault : (s.pair m.pair).fault = true <;> simp [unknown, conflict, fault]

/-- R23: the reason a spreader gives while the group is NOT_READY. -/
theorem notReadyReason_eq (s : State) (hb : Headblock) : s.notReadyReason hb =
    if (s.attach.get hb).state ≠ .armed then (0 : Byte) else if (s.setting.get hb).op ≠ none then 1
      else if (s.setting.get hb).setting = none then 2 else 3 := by
  simp only [State.notReadyReason, State.attachState, State.setOpOn, bne_iff_ne, Option.isSome_iff_ne_none,
    Option.isNone_iff_eq_none]

/-- Settles O31: the records of Table 10-3, and the group with its faults and reasons. -/
theorem readMembersAndGroup : Obligations.ReadMembersAndGroup := by
  intro s tag free htag progress record cause faults reason permit
  refine ⟨answers_of_free rfl free htag ?_, answers_of_free rfl free htag ?_⟩
  · have records : s.memberRecord = record := funext fun m => by
      rw [State.memberRecord, count_getD, code_getD, flag_inGroup]
      simp only [progressOf_eq]
      rfl
    exact congrArg (fun f => Response.mk .ok (allMembers.flatMap f) _) records
  · have listed : s.faultList = byte faults.length :: faults.flatten := by
      rw [State.faultList, counted]
      split
      · rw [faultList_eq, show faults = _ from if_pos ‹_›]
      · rw [show faults = _ from if_neg ‹_›]
        rfl
    have reasons : s.notReadyReasons = optional 1 (reason .a) ++ optional 1 (reason .b) := by
      have one : ∀ hb, (if s.group.state = .notReady ∧ s.mode.names hb then some [s.notReadyReason hb] else none) =
          reason hb := fun hb => by
        simp only [notReadyReason_eq, names_eq_decide, decide_eq_true_eq]
        rfl
      rw [State.notReadyReasons, headblocks_flatMap, one, one]
    have values : (answerReadGroup s).values = [s.mode.code, s.group.state.code, s.group.summary.code] ++
        byte s.group.members.length :: s.group.members.map memberCode ++
        byte faults.length :: faults.flatten ++ optional 1 (reason .a) ++ optional 1 (reason .b) ++
        permit s.permits.up s.upCause ++ permit s.permits.down s.downCause := by
      rw [answerReadGroup, memberList, counted_map_singleton, listed, reasons, State.permitsBytes]
      simp only [List.append_assoc]
      rfl
    exact congrArg (fun v => Response.mk .ok v _) values

/-! ## READ_DESCRIPTOR and READ_NODES (O32) -/

theorem answerReadDescriptor_range {b : Byte} (h : 1 < b.toNat) (s : State) :
    answerReadDescriptor b s = refuse .range s := by
  simp only [answerReadDescriptor, headblockOf?_eq_none h]

theorem answerReadNodes_range {b : Byte} (h : 1 < b.toNat) (s : State) : answerReadNodes b s = refuse .range s := by
  simp only [answerReadNodes, headblockOf?_eq_none h]

theorem answerReadDescriptor_none {s : State} {hb : Headblock} (h : (s.attach.get hb).descriptor = none) :
    answerReadDescriptor (headblockCode hb) s = refuse .state s := by
  simp only [answerReadDescriptor, headblockOf?_code, h]

theorem answerReadDescriptor_some {s : State} {hb : Headblock} {d : Descriptor}
    (h : (s.attach.get hb).descriptor = some d) : answerReadDescriptor (headblockCode hb) s =
      ⟨.ok, d.bytes ++ (s.attachState hb).bytes ++ [flag (s.attach.get hb).profile.isSome], s⟩ := by
  simp only [answerReadDescriptor, headblockOf?_code, h]

/-- R117: the lengths a descriptor supports, shortest first. -/
theorem supported_codes (d : Descriptor) : ([Length.l20, .l40, .l45].filter d.supports).map (fun l => [l.code]) =
    (if d.len20 then [[20]] else []) ++ (if d.len40 then [[40]] else []) ++ (if d.len45 then [[45]] else []) := by
  cases h20 : d.len20 <;> cases h40 : d.len40 <;> cases h45 : d.len45 <;>
    simp [List.filter, Descriptor.supports, h20, h40, h45, Length.code]

theorem finRange_seven : List.finRange 7 = [0, 1, 2, 3, 4, 5, 6] := by decide

theorem nodeRecordBytes_eq (o : Option NodeRec) : nodeRecordBytes o = match o with
    | none => List.replicate 14 (0 : Byte)
    | some r => (match r.link with | .online => 1 | .lost => 2) :: 1 :: r.kind.code :: byte r.misses.val ::
        be32 (timeWord r.lastGood) ++ optional 1 (r.input.map ([·])) ++ optional 1 (r.echo.map ([·])) ++
        [r.output, flag r.restarted ||| (flag r.supplyLow <<< 1)] := by
  cases o with
  | none => rfl
  | some r => cases link : r.link <;> simp [nodeRecordBytes, optional, NodeLink.code, link]

theorem transferBytes_eq (o : Option Transfer) : transferBytes o = match o with
    | none => [0, 0, 0, 0, 0, 0, 0]
    | some d => [1, byte (d.node.val + 1), byte d.first, byte d.count, byte d.next, byte d.attempt, byte d.received] := by
  cases o <;> rfl

theorem answerReadNodes_code (hb : Headblock) (s : State) : answerReadNodes (headblockCode hb) s =
    ⟨.ok, (s.attachState hb).bytes ++ [byte s.timing.period, s.timing.share.code] ++
        counted ((s.bus.get hb).urgent.map fun n => [nodeAddress n]) ++
        (List.finRange 7).flatMap (fun n => nodeRecordBytes ((s.bus.get hb).node n)) ++
        transferBytes (s.bus.get hb).transfer, s⟩ := by
  simp only [answerReadNodes, headblockOf?_code]

/-- Settles O32: descriptor and node table as they stand. -/
theorem readDescriptorAndNodes : Obligations.ReadDescriptorAndNodes := by
  intro s tag free htag
  refine ⟨fun b hb => ⟨answers_of_free rfl free htag (answerReadDescriptor_range hb _),
    answers_of_free rfl free htag (answerReadNodes_range hb _)⟩, fun hb => ?_⟩
  intro a bus record
  constructor
  · cases held : a.descriptor with
    | none => exact answers_of_free rfl free htag (answerReadDescriptor_none (s := enqueue _ s) held)
    | some d =>
      refine answers_of_free rfl free htag ((answerReadDescriptor_some (s := enqueue _ s) held).trans ?_)
      rw [Descriptor.bytes, supported_codes]
      rfl
  · have records : ∀ n, nodeRecordBytes ((s.bus.get hb).node n) = record n := fun n => nodeRecordBytes_eq _
    have values : (answerReadNodes (headblockCode hb) s).values =
        a.state.bytes ++ [byte s.timing.period, s.timing.share.code] ++
          byte bus.urgent.length :: bus.urgent.map (fun n => byte (n.val + 1)) ++
          record 0 ++ record 1 ++ record 2 ++ record 3 ++ record 4 ++ record 5 ++ record 6 ++
          transferBytes bus.transfer := by
      rw [answerReadNodes_code, counted_map_singleton, finRange_seven]
      simp only [List.flatMap_cons, List.flatMap_nil, List.append_nil, records, List.append_assoc]
      rfl
    refine answers_of_free rfl free htag ((answerReadNodes_code hb (enqueue _ s)).trans
      (congrArg (fun v => Response.mk .ok v _) ?_))
    refine Eq.trans ?_ (values.trans (congrArg (_ ++ ·) (transferBytes_eq bus.transfer)))
    rw [answerReadNodes_code]
    rfl

/-! ## SET_TIMING (O33) -/

section
variable (period share : Byte) (powerUp powerDown : Half) (confirm debounce : Byte)

/-- Table 10-5: every setting in its range and on its step. -/
def TimingInRanges : Prop :=
  (20 ≤ period.toNat ∧ period.toNat ≤ 200 ∧ period.toNat % 5 = 0) ∧ share.toNat ≤ 1 ∧
    (100 ≤ powerUp.toNat ∧ powerUp.toNat ≤ 5000 ∧ powerUp.toNat % 10 = 0) ∧
    (100 ≤ powerDown.toNat ∧ powerDown.toNat ≤ 5000 ∧ powerDown.toNat % 10 = 0) ∧
    (1 ≤ confirm.toNat ∧ confirm.toNat ≤ 30) ∧ 10 ≤ debounce.toNat ∧ debounce.toNat ≤ 200

/-- The settings a SET_TIMING carries. -/
def carriedTiming : Timing :=
  ⟨period.toNat, if share = 0 then .idleOnly else .shared, powerUp.toNat, powerDown.toNat, confirm.toNat, debounce.toNat⟩

theorem timingInRanges_iff : TimingInRanges period share powerUp powerDown confirm debounce ↔
    (inRange period.toNat 20 200 5 && decide (share.toNat ≤ 1) && inRange powerUp.toNat 100 5000 10 &&
      inRange powerDown.toNat 100 5000 10 && inRange confirm.toNat 1 30 1 && inRange debounce.toNat 10 200 1) = true := by
  simp only [TimingInRanges, Bool.and_eq_true, inRange_iff, decide_eq_true_eq]
  omega

theorem timingOf?_inRanges (h : TimingInRanges period share powerUp powerDown confirm debounce) :
    timingOf? period share powerUp powerDown confirm debounce =
      some (carriedTiming period share powerUp powerDown confirm debounce) :=
  if_pos ((timingInRanges_iff ..).1 h)

theorem timingOf?_outOfRanges (h : ¬TimingInRanges period share powerUp powerDown confirm debounce) :
    timingOf? period share powerUp powerDown confirm debounce = none :=
  if_neg (mt (timingInRanges_iff ..).2 h)

/-- Table 10-6: the eight bytes of the body spell the request's values. -/
theorem answerRequest_setTiming (s : State) :
    answerRequest 0x03 ([period, share] ++ be16 powerUp ++ be16 powerDown ++ [confirm, debounce]) s =
      answerSetTiming (timingOf? period share powerUp powerDown confirm debounce) s :=
  calc
    _ = answerSetTiming (timingOf? period share (ofBe16 _ _) (ofBe16 _ _) confirm debounce) s := rfl
    _ = _ := by simp only [ofBe16_be16]

end

theorem setOpRuns_eq_false {s : State} (h : ∀ hb ∈ headblocks, (s.setting.get hb).op = none) : s.setOpRuns = false :=
  Bool.eq_false_iff.2 fun runs => (setOpRuns_iff s).1 runs h

/-- R170: an order in FAULT_HELD, then any other order or set operation, refuses settings in range. -/
theorem answerSetTiming_some (timing : Timing) (s : State) : answerSetTiming (some timing) s =
    (firstFailing [(decide (s.order.stage ≠ .faultHeld), Status.held),
      (decide (s.order = .idle ∧ ∀ hb ∈ headblocks, (s.setting.get hb).op = none), .busy)]).elim
        (answerOk { s with timing := timing }) fun status => refuse status s := by
  simp only [answerSetTiming, firstFailing_cons, firstFailing_nil, isFaultHeld_iff, Bool.or_eq_true, bne_iff_ne,
    setOpRuns_iff, ← not_and_or, ne_eq]
  split
  case isTrue => rfl
  case isFalse => split <;> rfl

/-- Settles O33: the ranges are judged first, then the two checks on what runs. -/
theorem setTiming : Obligations.SetTiming := by
  intro s tag period share powerUp powerDown confirm debounce free htag
  have taken {status values act} (owner : ∀ q, answerSetTiming (timingOf? period share powerUp powerDown confirm debounce)
      (enqueue q s) = ⟨status, values, act (enqueue q s)⟩) :
      answers (.setTiming tag period share powerUp powerDown confirm debounce) s status values act :=
    answers_of_free rfl free htag ((answerRequest_setTiming period share powerUp powerDown confirm debounce _).trans (owner _))
  refine judged_cons (fun outside => ?_) fun ranges => judged_of_firstFailing (fun status failing => ?_) fun passed => ?_
  · rw [timingOf?_outOfRanges _ _ _ _ _ _ outside] at taken
    exact taken fun q => rfl
  · rw [timingOf?_inRanges _ _ _ _ _ _ ranges] at taken
    exact taken fun q => (answerSetTiming_some _ _).trans (congrArg (Option.elim · _ _) failing)
  · rw [timingOf?_inRanges _ _ _ _ _ _ ranges] at taken
    exact taken fun q => (answerSetTiming_some _ _).trans (congrArg (Option.elim · _ _) passed)

/-! ## The watch table (O46) -/

theorem watchBytes_eq (watches : List Watch) : watchBytes watches = byte watches.length :: watches.flatMap fun w =>
    [byte w.signal, match w.edge with | .rise => (0 : Byte) | .fall => 1 | .both => 2] := by
  rw [watchBytes, counted, List.length_map, ← List.flatMap_def]
  rfl

theorem edgeOf?_of_code {edge : Byte} {e : Edge}
    (h : edge.toNat = (match e with | .rise => 0 | .fall => 1 | .both => 2)) : edgeOf? edge = some e := by
  have spelled : edge = e.code := BitVec.eq_of_toNat_eq (by rw [h]; cases e <;> rfl)
  rw [spelled]
  cases e <;> rfl

theorem edgeOf?_eq_none {b : Byte} (h : 2 < b.toNat) : edgeOf? b = none := by
  have distinct : ∀ c : Byte, c.toNat ≤ 2 → b ≠ c := by rintro c hc rfl; omega
  simp [edgeOf?, distinct]

theorem answerWatchSet_range {signal edge : Byte} (h : 102 < signal.toNat ∨ 2 < edge.toNat) (s : State) :
    answerWatchSet signal edge s = refuse .range s := by
  unfold answerWatchSet
  rcases h with h | h
  · split
    · rfl
    · exact if_pos h
  · rw [edgeOf?_eq_none h]

section
variable {signal edge : Byte} {e : Edge} {s : State} (code : edgeOf? edge = some e) (range : signal.toNat ≤ 102)
include code range

theorem answerWatchSet_known (known : ∃ w ∈ s.watches, w.signal = signal.toNat) : answerWatchSet signal edge s =
    answerWatches (s.watches.map fun w => if w.signal = signal.toNat then { w with edge := e } else w) s := by
  unfold answerWatchSet
  rw [code]
  exact (if_neg (by omega)).trans (if_pos (by simpa using known))

theorem answerWatchSet_new (new : ¬∃ w ∈ s.watches, w.signal = signal.toNat) (room : s.watches.length < 32) :
    answerWatchSet signal edge s = answerWatches (s.watches ++ [⟨signal.toNat, e⟩]) s := by
  unfold answerWatchSet
  rw [code]
  exact (if_neg (by omega)).trans ((if_neg (by simpa using new)).trans (if_pos room))

theorem answerWatchSet_full (new : ¬∃ w ∈ s.watches, w.signal = signal.toNat) (full : 32 ≤ s.watches.length) :
    answerWatchSet signal edge s = refuse .full s := by
  unfold answerWatchSet
  rw [code]
  exact (if_neg (by omega)).trans ((if_neg (by simpa using new)).trans (if_neg (Nat.not_lt.2 full)))

end

/-- Settles O46: the three requests, each by its checks. -/
theorem watchRequests : Obligations.WatchRequests := by
  intro s tag signal edge free htag values sets known
  have entries : ∀ (ws : List Watch) (u : State), answerWatches ws u = ⟨.ok, values ws, sets ws u⟩ := fun ws u =>
    congrArg (fun v => Response.mk .ok v _) (watchBytes_eq ws)
  refine ⟨fun outside => ?_, fun range e code => ⟨fun hKnown => ?_, fun new room => ?_, fun new full => ?_⟩, fun range => ?_,
    fun all => ?_, fun range some => ?_, ?_⟩
  · exact answers_of_free rfl free htag (answerWatchSet_range outside _)
  · exact answers_of_free rfl free htag
      ((answerWatchSet_known (s := enqueue _ s) (edgeOf?_of_code code) range hKnown).trans (entries _ _))
  · exact answers_of_free rfl free htag
      ((answerWatchSet_new (s := enqueue _ s) (edgeOf?_of_code code) range new room).trans (entries _ _))
  · exact answers_of_free rfl free htag (answerWatchSet_full (s := enqueue _ s) (edgeOf?_of_code code) range new full)
  · have one : signal ≠ 255 := by rintro rfl; exact absurd range (by decide)
    have kept : (s.watches.filter fun w => w.signal != signal.toNat) =
        s.watches.filter fun w => w.signal ≠ signal.toNat :=
      List.filter_congr fun w _ => by rw [bne, beq_eq_decide, decide_not]
    refine answers_of_free rfl free htag (((if_neg one).trans (if_neg (by omega))).trans ?_)
    rw [← entries, ← kept]
    rfl
  · exact answers_of_free rfl free htag ((if_pos all).trans (entries _ _))
  · exact answers_of_free rfl free htag ((if_neg some).trans (if_pos range))
  · exact answers_of_free rfl free htag (entries s.watches (enqueue _ s))

end Sys2Proof.Machine
end

section
/-! SUPPORT. How CLEAR_FAULTS, RESUME and the requests about a spreader's attachment are answered, and the statements
about them. -/

namespace Sys2Proof.Machine

-- One theorem at a time: proofs that wait for one another hold a thread each.
set_option Elab.async false

/-! ## Checks that are Booleans -/

theorem judged_cons_bool {i : Instr} {s : State} {check : Bool} {status : Status} {rest : List (Bool × Status)}
    {accepted : Prop} (fails : check = false → refuses i s status) (passes : check = true → judged i s rest accepted) :
    judged i s ((check, status) :: rest) accepted := by
  cases check
  · exact fails rfl
  · exact passes rfl

theorem judged_nil {i : Instr} {s : State} {accepted : Prop} (h : accepted) : judged i s [] accepted := h

/-! ## CLEAR_FAULTS (O38) -/

theorem agrees_iff (s : State) (p : PairId) : s.agrees p = true ↔ s.echo p = (s.pair p).command.echo := by
  simp only [State.agrees, beq_iff_eq]

theorem clearLatches_agrees (s u : State) : clearLatches s.agrees u =
    updatePairs (fun p r => if s.echo p = (s.pair p).command.echo then { r with fault := false, mismatch := false } else r)
      u := by
  unfold clearLatches
  simp only [agrees_iff]

/-- R58: a pair is still latched when it was and its echo disagrees with its command. -/
theorem fault_clearLatches {s u : State} (pairs : u.pairs = s.pairs) (p : PairId) :
    ((clearLatches s.agrees u).pair p).fault =
      ((s.pair p).fault && !decide (s.echo p = (s.pair p).command.echo)) := by
  have same : u.pair p = s.pair p := by rw [State.pair, State.pair, pairs]
  rw [clearLatches_agrees, pair_updatePairs, same]
  by_cases h : s.echo p = (s.pair p).command.echo
  · rw [if_pos h, decide_eq_true h]
    simp
  · rw [if_neg h, decide_eq_false h]
    simp

theorem stillLatched_clearLatches {s u : State} (pairs : u.pairs = s.pairs) :
    let still := fun p : PairId => (s.pair p).fault && !decide (s.echo p = (s.pair p).command.echo)
    (clearLatches s.agrees u).stillLatched = counted ((allMembers.filter fun m => still m.pair).map fun m => [memberCode m]) ++
      counted (([telescope .a, twinGear .a, telescope .b, twinGear .b].filter still).map fun p => [pairCode p]) := by
  intro still
  have latched : (clearLatches s.agrees u).latched = fun m => still m.pair := funext fun m => fault_clearLatches pairs m.pair
  have fault : (fun p => ((clearLatches s.agrees u).pair p).fault) = still := funext fun p => fault_clearLatches pairs p
  rw [State.stillLatched, latched, fault]
  rfl

section
variable {s : State} {head : OrderHead} {members : List OrderMember}

theorem answerClearFaults_proposed {due : Nat} (h : s.order = .proposed head due) :
    answerClearFaults s = refuse .busy s := by
  rw [answerClearFaults, h]

theorem answerClearFaults_active {stage : ActiveStage} {due : Nat} (h : s.order = .active stage head members due) :
    answerClearFaults s = refuse .busy s := by
  rw [answerClearFaults, h]

theorem answerClearFaults_suspended (h : s.order = .suspended head) : answerClearFaults s = refuse .hold s := by
  rw [answerClearFaults, h]

theorem answerClearFaults_idle (h : s.order = .idle) : answerClearFaults s =
    ⟨.ok, (clearLatches s.agrees s).stillLatched, clearLatches s.agrees s⟩ := by
  rw [answerClearFaults, emptyFaultHeld, h]

theorem answerClearFaults_faultHeld {reason : EndReason} (h : s.order = .faultHeld head members reason) :
    answerClearFaults s =
      ⟨.ok, (clearLatches s.agrees (post (.orderStage .idle head) { s with order := .idle })).stillLatched,
        clearLatches s.agrees (post (.orderStage .idle head) { s with order := .idle })⟩ := by
  rw [answerClearFaults, emptyFaultHeld, h]

end

/-- Settles O38: the order record decides; the reply lists what `clearLatches` leaves. -/
theorem clearFaults : Obligations.ClearFaults := by
  intro s tag free htag agrees still bodies values clear
  have cleared : ∀ u : State, u.pairs = s.pairs →
      Response.mk .ok (clearLatches s.agrees u).stillLatched (clearLatches s.agrees u) = ⟨.ok, values, clear u⟩ :=
    fun u pairs => congr (congrArg (Response.mk .ok) (stillLatched_clearLatches pairs)) (clearLatches_agrees s u)
  cases order : s.order with
  | proposed => exact answers_of_free rfl free htag (answerClearFaults_proposed (s := enqueue _ s) order)
  | active => exact answers_of_free rfl free htag (answerClearFaults_active (s := enqueue _ s) order)
  | suspended => exact answers_of_free rfl free htag (answerClearFaults_suspended (s := enqueue _ s) order)
  | idle =>
    exact answers_of_free rfl free htag
      ((answerClearFaults_idle (s := enqueue _ s) order).trans (cleared (enqueue _ s) rfl))
  | faultHeld =>
    exact answers_of_free rfl free htag
      ((answerClearFaults_faultHeld (s := enqueue _ s) order).trans (cleared (post _ _) rfl))

/-! ## RESUME (O39) -/

theorem answerResume_clear {s : State} (h : s.trip.state = .clear) : answerResume s = refuse .state s := by
  rw [answerResume, h]

theorem answerResume_holding {s : State} {cause : HoldCause} (h : s.trip.state = .holding cause) :
    answerResume s = refuse .state s := by
  rw [answerResume, h]

theorem answerResume_open {s : State} {cause : HoldCause} (h : s.trip.state = .held cause)
    (chain : s.trip.chainClosed = false) : answerResume s = refuse .tripOpen s := by
  simp only [answerResume, h, chain]
  rfl

theorem answerResume_pending {s : State} {cause : HoldCause} (h : s.trip.state = .held cause)
    (chain : s.trip.chainClosed = true) (pending : s.trip.pending = true) :
    answerResume s = ⟨.retrip, [], retrip s⟩ := by
  simp only [answerResume, h, chain, pending]
  rfl

theorem answerResume_passed {s : State} {cause : HoldCause} (h : s.trip.state = .held cause)
    (chain : s.trip.chainClosed = true) (pending : s.trip.pending = false) :
    answerResume s = answerOk (resumeOrder (releaseHold s)) := by
  simp only [answerResume, h, chain, pending]
  rfl

theorem claimForceOff_eq (s : State) : claimForceOff s =
    updatePairs (fun _ r => { r with command := .bothOff }) { s with awaitingOff := s.awaitingOffOf } := by
  unfold claimForceOff claimOff
  simp only [if_true]

/-- R86: HOLDING entered again, the hold record as it stands. -/
def holdAgain (s : State) : State :=
  post (.holdState (.holding .trip) false true s.trip.hold)
    (updatePairs (fun _ r => { r with command := .bothOff })
      { s with awaitingOff := s.awaitingOffOf, trip := { s.trip with state := .holding .trip, pending := false } })

theorem enterHolding_claimForceOff {s : State} (chain : s.trip.chainClosed = true) :
    enterHolding .trip s.trip.hold (claimForceOff s) = holdAgain s := by
  rw [claimForceOff_eq, enterHolding, holdAgain]
  simp only [State.holdStateNotice, ← chain]
  rfl

theorem reportConfirmedOff_holdAgain {s : State} (chain : s.trip.chainClosed = true) :
    reportConfirmedOff (holdAgain s) = post (.holdState (.held .trip) false true s.trip.hold)
      { holdAgain s with trip := { (holdAgain s).trip with state := .held .trip } } := by
  have state : (holdAgain s).trip.state = .holding .trip := rfl
  have closed : (holdAgain s).trip.chainClosed = true := chain
  rw [reportConfirmedOff, state]
  simp only [State.holdStateNotice, closed]
  rfl

/-- R86: the hold repeated, HELD at once when nothing awaits confirmation. -/
theorem retrip_eq {s : State} (chain : s.trip.chainClosed = true) : retrip s =
    if s.awaitingOffOf = [] then
      post (.holdState (.held .trip) false true s.trip.hold)
        { holdAgain s with trip := { (holdAgain s).trip with state := .held .trip } }
    else holdAgain s := by
  have awaiting : (holdAgain s).awaitingOff = s.awaitingOffOf := rfl
  rw [retrip, enterHolding_claimForceOff chain, reportIfEmpty, reportConfirmedOff_holdAgain chain, awaiting]
  simp only [List.isEmpty_iff]

theorem releaseHold_eq {s : State} (chain : s.trip.chainClosed = true) : releaseHold s =
    post (.holdState .clear false true s.trip.hold)
      { s with trip := { s.trip with state := .clear, pending := false }, awaitingOff := [] } := by
  rw [releaseHold]
  simp only [State.holdStateNotice, chain]

/-- R87: the order of the hold record, if there is one, is checked again. -/
theorem resumeOrder_eq (s : State) : resumeOrder s = match s.trip.hold with
    | none => s
    | some h => checkOrder ⟨h.kind, h.origin, h.turningBegun⟩ (some h.members) { s with trip := { s.trip with hold := none } } := by
  unfold resumeOrder
  cases s.trip.hold <;> rfl

/-- Settles O39: Table 4-3 by the trip unit's state, then the pending trip. -/
theorem resume : Obligations.Resume := by
  intro s tag free htag
  refine judged_cons (fun clear => ?_) fun notClear => judged_cons (fun holding => ?_) fun notHolding =>
    judged_cons_bool (fun chainOpen => ?_) fun chain => judged_nil ⟨fun pending => ?_, fun pending => ?_⟩
  · exact answers_of_free rfl free htag (answerResume_clear (s := enqueue _ s) (not_not.1 clear))
  · obtain ⟨cause, h⟩ : ∃ cause, s.trip.state = .holding cause := by
      rcases not_and_or.1 holding with h | h
      · exact ⟨_, not_not.1 h⟩
      · exact ⟨_, not_not.1 h⟩
    exact answers_of_free rfl free htag (answerResume_holding (s := enqueue _ s) h)
  all_goals
    obtain ⟨cause, held⟩ : ∃ cause, s.trip.state = .held cause := by
      cases h : s.trip.state with
      | clear => exact absurd h notClear
      | holding cause => cases cause <;> simp [h] at notHolding
      | held cause => exact ⟨cause, rfl⟩
  · exact answers_of_free rfl free htag (answerResume_open (s := enqueue _ s) held chainOpen)
  · refine answers_of_free rfl free htag ((answerResume_pending (s := enqueue _ s) held chain pending).trans ?_)
    exact congrArg (Response.mk .retrip []) (retrip_eq (s := enqueue _ s) chain)
  · refine answers_of_free rfl free htag ((answerResume_passed (s := enqueue _ s) held chain pending).trans ?_)
    exact congrArg (Response.mk .ok []) ((congrArg resumeOrder (releaseHold_eq (s := enqueue _ s) chain)).trans (resumeOrder_eq _))

/-! ## ARM (O43) -/

theorem answerArm_range {b : Byte} (h : 1 < b.toNat) (s : State) : answerArm b s = refuse .range s := by
  simp only [answerArm, headblockOf?_eq_none h]

theorem answerArm_refused {s : State} {hb : Headblock} {status : Status} (h : s.armRefusal hb = some status) :
    answerArm (headblockCode hb) s = refuse status s := by
  simp only [answerArm, headblockOf?_code, h]

theorem answerArm_passed {s : State} {hb : Headblock} (h : s.armRefusal hb = none) :
    answerArm (headblockCode hb) s = answerOk (armHead hb s) := by
  simp only [answerArm, headblockOf?_code, h]

/-- R121: the refusal of ARM is that of the first of its three checks that fails. -/
theorem armRefusal_eq_firstFailing (s : State) (hb : Headblock) : s.armRefusal hb = firstFailing
    [(decide ((s.attach.get hb).state = .identified), Status.state), (decide ((s.attach.get hb).profile ≠ none), .state),
      ((s.attach.get hb).profile.all fun p => p.expected.all fun serial =>
        (s.attach.get hb).descriptor.any fun d => decide (d.serial = serial), .profileMismatch)] := by
  rw [State.armRefusal, State.attachState, firstFailing_cons, firstFailing_cons, firstFailing_cons_bool, firstFailing_nil]
  by_cases identified : (s.attach.get hb).state = .identified
  · cases profile : (s.attach.get hb).profile with
    | none => simp [identified]
    | some p =>
      simp only [identified, bne_self_eq_false, State.serialFits, beq_eq_decide, Option.all_some]
      by_cases fits : p.expected.all (fun serial => (s.attach.get hb).descriptor.any fun d => decide (d.serial = serial)) = true
      · simp [fits]
      · simp [Bool.eq_false_iff.2 fits]
  · simp [identified]

theorem clearLatches_head (hb : Headblock) (s : State) : clearLatches (fun p => p.hb == hb) s =
    updatePairs (fun p r => if p.hb = hb then { r with fault := false, mismatch := false } else r) s := by
  unfold clearLatches
  simp only [beq_iff_eq]

/-- Settles O43: the headblock, the three checks, and the change of state with the latches cleared. -/
theorem armRequest : Obligations.ArmRequest := by
  intro s tag free htag
  refine ⟨fun b hb => ?range, fun hb => judged_of_free rfl free htag (fun status failing => ?refused) fun passed => ?accepted⟩
  case range => exact answers_of_free rfl free htag (answerArm_range hb _)
  case refused => exact answerArm_refused (s := enqueue _ s) ((armRefusal_eq_firstFailing _ hb).trans failing)
  case accepted =>
    refine answers_of_free rfl free htag
      ((answerArm_passed (s := enqueue _ s) ((armRefusal_eq_firstFailing _ hb).trans passed)).trans ?_)
    rw [armHead, clearLatches_head]
    rfl

/-! ## DISARM, RELEASE and ATTACH (O44) -/

theorem twinCapable_eq_any (s : State) (hb : Headblock) :
    s.twinCapable hb = (s.attach.get hb).descriptor.any Descriptor.twin := by
  rw [State.twinCapable]
  cases (s.attach.get hb).descriptor <;> rfl

theorem mem_membersOf {hb : Headblock} {m : Member} : m ∈ membersOf hb ↔ m.hb = hb := by
  simp only [membersOf, List.mem_map, List.mem_finRange, true_and]
  exact ⟨fun ⟨_, h⟩ => h ▸ rfl, fun h => ⟨m.k, by rw [← h]⟩⟩

theorem served_iff {s : State} {hb : Headblock} {m : Member} (h : m ∈ membersOf hb) :
    s.served m = true ↔ m.k.val < 4 ∨ (s.attach.get hb).descriptor.any Descriptor.twin = true := by
  rw [State.served, mem_membersOf.1 h, twinCapable_eq_any, Bool.or_eq_true, Member.outer, decide_eq_true_eq]

theorem allUnlocked_eq (s : State) (hb : Headblock) : s.allUnlocked hb =
    decide (∀ m ∈ membersOf hb, m.k.val < 4 ∨ (s.attach.get hb).descriptor.any Descriptor.twin = true →
      (s.member m).position = .unlocked) := by
  rw [Bool.eq_iff_iff, decide_eq_true_eq, State.allUnlocked, State.servedMembers, List.all_eq_true]
  simp only [List.mem_filter, and_imp, beq_iff_eq]
  exact forall_congr' fun m => forall_congr' fun hm => by rw [served_iff hm]

/-- R122: the refusal of a spreader that is ARMED. -/
theorem disarmRefusal_eq_firstFailing {s : State} {hb : Headblock} {involved unlocked : Bool}
    (involves : s.involved hb = involved) (positions : s.allUnlocked hb = unlocked) :
    s.disarmRefusal hb = firstFailing [(!involved, Status.busy), (unlocked, .locked)] := by
  subst involves positions
  simp only [State.disarmRefusal, firstFailing_cons_bool, firstFailing_nil, Bool.not_not, Bool.not_eq_true']

theorem answerDisarm_range {b : Byte} (h : 1 < b.toNat) (s : State) : answerDisarm b s = refuse .range s := by
  simp only [answerDisarm, headblockOf?_eq_none h]

theorem answerRelease_range {b : Byte} (h : 1 < b.toNat) (s : State) : answerRelease b s = refuse .range s := by
  simp only [answerRelease, headblockOf?_eq_none h]

theorem answerAttach_range {b : Byte} (h : 1 < b.toNat) (s : State) : answerAttach b s = refuse .range s := by
  simp only [answerAttach, headblockOf?_eq_none h]

theorem answerDisarm_code (hb : Headblock) (s : State) : answerDisarm (headblockCode hb) s =
    (if (s.attach.get hb).state = .armed then s.disarmRefusal hb else some .state).elim
      (answerOk (changeAttach hb (fun a => { a with state := .identified }) [] s)) fun status => refuse status s := by
  simp only [answerDisarm, headblockOf?_code, State.attachState, bne_iff_ne, ne_eq, ite_not]
  split
  · cases s.disarmRefusal hb <;> rfl
  · rfl

theorem answerRelease_code (hb : Headblock) (s : State) : answerRelease (headblockCode hb) s =
    (s.releaseRefusal hb).elim (answerOk (enterReleasing hb (if (s.attach.get hb).plug then .off else .empty) s))
      fun status => refuse status s := by
  simp only [answerRelease, headblockOf?_code]
  cases s.releaseRefusal hb <;> rfl

/-- R122: DISARM's table: ARMED first. -/
theorem disarmTable_eq (s : State) (hb : Headblock) {involved unlocked : Bool} (involves : s.involved hb = involved)
    (positions : s.allUnlocked hb = unlocked) :
    (if (s.attach.get hb).state = .armed then s.disarmRefusal hb else some .state) = firstFailing
      [(decide ((s.attach.get hb).state = .armed), .state), (!involved, .busy), (unlocked, .locked)] := by
  rw [firstFailing_cons, disarmRefusal_eq_firstFailing involves positions, ite_not]

/-- R123: RELEASE's table: the states it is refused in, then DISARM's checks of an ARMED spreader. -/
theorem releaseRefusal_eq_firstFailing {s : State} {hb : Headblock} {involved unlocked : Bool}
    (involves : s.involved hb = involved) (positions : s.allUnlocked hb = unlocked) :
    s.releaseRefusal hb = firstFailing
      [(decide ((s.attach.get hb).state ≠ .empty ∧ (s.attach.get hb).state ≠ .off ∧
          ∀ next ∈ [Next.empty, .off, .powering], (s.attach.get hb).state ≠ .releasing next), Status.state),
        (!decide ((s.attach.get hb).state = .armed) || !involved, .busy),
        (!decide ((s.attach.get hb).state = .armed) || unlocked, .locked)] := by
  rw [State.releaseRefusal, disarmRefusal_eq_firstFailing involves positions, State.attachState]
  cases (s.attach.get hb).state with
  | releasing next => cases next <;> rfl
  | armed => simp [firstFailing]
  | _ => rfl

/-- R123: the change that ATTACH and RELEASE make of a supplied spreader. -/
theorem enterReleasing_eq (hb : Headblock) (next : Next) (s : State) : enterReleasing hb next s = changeAttach hb (fun a =>
    { a with state := .releasing next, descriptor := none, profile := none, census := none
             delayEnd := some (s.time + s.timing.powerDown) }) [] s := rfl

theorem answerAttach_code (hb : Headblock) (s : State) : answerAttach (headblockCode hb) s =
    match (s.attach.get hb).state with
    | .off => answerOk (enterPowering hb s)
    | .attachFault _ => answerOk (enterReleasing hb .powering s)
    | _ => refuse .state s := by
  simp only [answerAttach, headblockOf?_code, State.attachState]
  cases (s.attach.get hb).state <;> rfl

/-- Settles O44: the three requests, each by its table. -/
theorem disarmReleaseAttach : Obligations.DisarmReleaseAttach := by
  intro s tag free htag
  refine ⟨fun b hb => ⟨answers_of_free rfl free htag (answerDisarm_range hb _), answers_of_free rfl free htag
    (answerRelease_range hb _), answers_of_free rfl free htag (answerAttach_range hb _)⟩, fun hb => ?_⟩
  intro a involved unlocked armed downTo
  have involves : ∀ q, (enqueue q s).involved hb = involved := fun _ => congrArg (· || s.setOpOn hb) (orderInvolves_eq s hb)
  have positions : ∀ q, (enqueue q s).allUnlocked hb = unlocked := fun _ => allUnlocked_eq s hb
  refine ⟨judged_of_free rfl free htag (fun status failing => ?_) fun passed => answers_of_free rfl free htag ?_,
    judged_of_free rfl free htag (fun status failing => ?_) fun passed => answers_of_free rfl free htag ?_, ?_⟩
  · refine (answerDisarm_code hb (enqueue _ s)).trans ?_
    rw [(disarmTable_eq _ hb (involves _) (positions _)).trans failing]
    rfl
  · refine (answerDisarm_code hb (enqueue _ s)).trans ?_
    rw [(disarmTable_eq _ hb (involves _) (positions _)).trans passed]
    rfl
  · refine (answerRelease_code hb (enqueue _ s)).trans ?_
    rw [(releaseRefusal_eq_firstFailing (involves _) (positions _)).trans failing]
    rfl
  · refine (answerRelease_code hb (enqueue _ s)).trans ?_
    rw [(releaseRefusal_eq_firstFailing (involves _) (positions _)).trans passed]
    rfl
  · have owner := answerAttach_code hb (enqueue ⟨tag, 0x24, [headblockCode hb]⟩ s)
    rw [show ((enqueue _ s).attach.get hb).state = a.state from rfl] at owner
    cases state : a.state <;> rw [state] at owner <;> exact answers_of_free rfl free htag owner

end Sys2Proof.Machine
end

section
/-! SUPPORT. The composition of the lift group, the members' values, the check of an order and the claims on the coils, and
the statements about them. -/

namespace Sys2Proof.Machine

-- One theorem at a time: proofs that wait for one another hold a thread each.
set_option Elab.async false

/-! ## What a composition reads (R10) -/

theorem names_iff (mode : TrolleyMode) (hb : Headblock) : mode.names hb = true ↔ match hb with
    | .a => mode ≠ .soloB
    | .b => mode ≠ .soloA := by
  cases mode <;> cases hb <;> simp [TrolleyMode.names]

theorem ready_iff (s : State) (hb : Headblock) : s.ready hb = true ↔
    (s.attach.get hb).state = .armed ∧ (s.setting.get hb).op = none ∧ (s.setting.get hb).setting ≠ none := by
  simp only [State.ready, State.attachState, State.setOpOn, Bool.and_eq_true, Bool.not_eq_true', beq_iff_eq,
    Option.isSome_iff_ne_none, and_assoc, Option.isSome_eq_false_iff, Option.isNone_iff_eq_none]

theorem twinMode_iff (s : State) (hb : Headblock) : s.twinMode hb = true ↔
    ∃ st, (s.setting.get hb).setting = some st ∧ st.mode = .twin := by
  simp only [State.twinMode, beq_iff_eq, Option.map_eq_some_iff]

/-- Every spreader that the mode names can take part. -/
def State.AllReady (s : State) : Prop := ∀ hb, s.mode.names hb = true → s.ready hb = true

theorem composed_of_allReady {s : State} (h : s.AllReady) :
    s.composed = allMembers.filter fun m => s.mode.names m.hb && (m.outer || s.twinMode m.hb) := by
  refine if_pos (List.all_eq_true.2 fun hb _ => ?_)
  cases named : s.mode.names hb
  · rfl
  · simpa using h hb named

theorem composed_of_not_allReady {s : State} (h : ¬s.AllReady) : s.composed = [] := by
  refine if_neg fun all => h fun hb named => ?_
  have := List.all_eq_true.1 all hb (by cases hb <;> simp [headblocks])
  simpa [named] using this

theorem mem_allMembers (m : Member) : m ∈ allMembers := by
  rw [allMembers, headblocks_flatMap, List.mem_append, mem_membersOf, mem_membersOf]
  cases m.hb <;> simp

/-- R10: the number of members of a spreader is 0, 4 or 8. -/
theorem length_composed (s : State) : s.composed.length ∈ [0, 4, 8, 12, 16] := by
  by_cases ready : s.AllReady
  · have count : ∀ namesA namesB twinA twinB : Bool, (allMembers.filter fun m =>
        (match m.hb with | .a => namesA | .b => namesB) && (m.outer || match m.hb with | .a => twinA | .b => twinB)).length ∈
        [0, 4, 8, 12, 16] := by decide
    have same : (fun m : Member => s.mode.names m.hb && (m.outer || s.twinMode m.hb)) = fun m =>
        (match m.hb with | .a => s.mode.names .a | .b => s.mode.names .b) &&
          (m.outer || match m.hb with | .a => s.twinMode .a | .b => s.twinMode .b) :=
      funext fun m => by cases m.hb <;> rfl
    rw [composed_of_allReady ready, same]
    exact count _ _ _ _
  · rw [composed_of_not_allReady ready]
    simp

theorem composed_congr {s t : State} (mode : t.mode = s.mode) (attach : t.attach = s.attach)
    (setting : t.setting = s.setting) : t.composed = s.composed := by
  have ready : t.ready = s.ready := funext fun hb => by
    rw [State.ready, State.attachState, State.setOpOn, attach, setting]
    rfl
  have twin : t.twinMode = s.twinMode := funext fun hb => by rw [State.twinMode, setting]; rfl
  rw [State.composed, ready, twin, mode]
  rfl

/-! ## What a composition does (R11, R12) -/

theorem compose_same {s : State} (h : s.composed = s.group.members) : compose s = s := if_pos h

theorem compose_changed {s : State} (h : s.composed ≠ s.group.members) : compose s =
    abortOrder .spreaderLost (fun om => !s.ready om.member.hb) { s with group := { s.group with members := s.composed } } :=
  if_neg h

theorem compose_composed (s : State) : (compose s).composed = s.composed :=
  composed_congr (compose_keeps s).mode_eq (compose_keeps s).attach_eq (compose_keeps s).setting_eq

theorem compose_members (s : State) : (compose s).group.members = s.composed := by
  by_cases h : s.composed = s.group.members
  · rw [compose_same h, h]
  · rw [compose_changed h, (abortOrder_keeps _ _ _).memberList_eq]

/-- A composition right after a composition finds the list as it should be. -/
theorem compose_compose (s : State) : compose (compose s) = compose s :=
  compose_same ((compose_composed s).trans (compose_members s).symm)

theorem heldOrder_pair (head : OrderHead) (members : List OrderMember) (reason : EndReason) (s : State) (p : PairId) :
    (heldOrder head members reason s).pair p = if ∃ om ∈ members, om.member.pair = p then
      { s.pair p with command := .bothOff, offMark := false } else s.pair p := by
  rw [heldOrder, (postAll_keeps _ _).pair_eq, pair_updatePairs]
  rfl

theorem heldOrder_notices (head : OrderHead) (members : List OrderMember) (reason : EndReason) (s : State) :
    (heldOrder head members reason s).notices = (postAll [.orderStage .faultHeld head,
      .orderEnd head .held reason (members.map fun om => (om.member, om.progress))] s).notices := by
  rw [heldOrder]
  exact notices_postAll_congr rfl rfl _

/-- Settles O19: the list composed, and the abort that a changed list makes. -/
theorem composition : Obligations.Composition := by
  intro s t named meets listed
  have isNamed : ∀ hb, s.mode.names hb = true ↔ named hb := names_iff s.mode
  have isReady : ∀ hb, s.ready hb = true ↔ meets hb := ready_iff s
  have allReady : s.AllReady ↔ ∀ hb, named hb → meets hb :=
    forall_congr' fun hb => by rw [isNamed, isReady]
  have members : t.group.members = s.composed := compose_members s
  refine ⟨fun missing => ?_, fun complete => ⟨fun m => ?_, ?_⟩, ?_, fun same => compose_same (members ▸ same),
    fun changed => ?_, compose_keeps s⟩
  · rw [members, composed_of_not_allReady (mt allReady.1 missing)]
  · rw [members, composed_of_allReady (allReady.2 complete), List.mem_filter, Bool.and_eq_true, Bool.or_eq_true,
      isNamed, twinMode_iff, Member.outer, decide_eq_true_eq]
    exact and_iff_right (mem_allMembers m)
  · rw [members, composed_of_allReady (allReady.2 complete)]
    exact List.filter_sublist
  · rw [members]
    exact length_composed s
  · have aborted : t = abortOrder .spreaderLost (fun om => !s.ready om.member.hb)
        { s with group := { s.group with members := s.composed } } := compose_changed (members ▸ changed)
    cases order : s.order with
    | active stage head oms due =>
      have failed : (oms.map fun om => if !s.ready om.member.hb then { om with progress := .failed } else om) =
          oms.map fun om => if meets om.member.hb then om else { om with progress := .failed } :=
        List.map_congr_left fun om _ => by
          by_cases h : meets om.member.hb
          · simp [(isReady _).2 h, h]
          · simp [Bool.eq_false_iff.2 (mt (isReady _).1 h), h]
      have held := aborted.trans (abortOrder_active (s := { s with group := { s.group with members := s.composed } })
        order .spreaderLost fun om => !s.ready om.member.hb)
      rw [failed] at held
      refine ⟨by rw [held]; rfl, fun p => ?_, by rw [held, heldOrder_notices]; rfl⟩
      have same : (∃ om ∈ oms.map fun om => if meets om.member.hb then om else { om with progress := .failed },
          om.member.pair = p) ↔ ∃ om ∈ oms, om.member.pair = p := by
        simp [apply_ite OrderMember.member]
      rw [held, heldOrder_pair]
      simp only [same]
      rfl
    | _ =>
      rw [aborted, abortOrder_of_not_runs (by show s.order.runs = false; rw [order]; rfl)]
      exact ⟨order, rfl, rfl⟩

/-! ## Members' values (O20) -/

theorem inService_iff (state : AttachState) : state.inService = true ↔ state = .identified ∨ state = .armed := by
  rw [inService_eq_decide, decide_eq_true_eq]

/-- Settles O20: the rule of R3, the sensors read off the node's input image. -/
theorem memberValues : Obligations.MemberValues := by
  intro s m inService at0
  refine ⟨fun out => ?_, fun dark => ?_, fun serves r input node link image => ?_⟩
  · rw [State.derivedMember, State.attachState, if_neg (mt (inService_iff _).1 out)]
    rfl
  · have none : s.onlineInput m.hb m.node = none := by
      unfold State.onlineInput
      cases found : s.node m.hb m.node with
      | none => rfl
      | some r =>
        rcases dark r found with lost | noInput
        · simp [lost]
        · simp [noInput]
    rw [State.derivedMember, none]
    split <;> rfl
  · have online : s.onlineInput m.hb m.node = some input := by
      rw [State.onlineInput, show s.node m.hb m.node = some r from node]
      simp only [link, image, if_true]
    have sensed : s.derivedMember m = sensedMember m input := by
      rw [State.derivedMember, State.attachState, if_pos ((inService_iff _).2 serves), online]
    have bit : memberBit m = at0 := by
      simp only [memberBit, Member.outer, decide_eq_true_eq, at0]
    rw [sensed, sensedMember, bit]
    exact ⟨rfl, rfl⟩

/-! ## The check of an order (O21) -/

/-- Table 2-7: the first check that fails. -/
theorem checkFails_eq_firstFailing (s : State) (hold : Option (List Member)) : s.checkFails hold = firstFailing
    [(decide (s.group.state ≠ .notReady), EndReason.notReady), (decide (∀ l ∈ hold, l = s.group.members), .spreaderLost),
      (decide (s.group.state ≠ .fault), .groupFault),
      (decide (s.bypass ≠ none ∨ ∀ m ∈ s.group.members, (s.member m).landed = .on), .notLanded)] := by
  have lost : (hold.any (· != s.group.members) = true) ↔ ¬∀ l ∈ hold, l = s.group.members := by
    cases hold <;> simp
  simp only [State.checkFails, firstFailing_cons, firstFailing_nil, beq_iff_eq, ne_eq, not_not, lost]
  have landed : (s.bypass.isNone && !(s.group.members.all fun m => (s.member m).landed == .on)) = true ↔
      ¬(¬s.bypass = none ∨ ∀ m ∈ s.group.members, (s.member m).landed = .on) := by
    simp
  simp only [landed]

theorem startProgress_eq (s : State) (kind : OrderKind) (m : Member) :
    (s.startProgress kind m) = ⟨m, if (s.member m).position = kind.target then .settling 0 else .offWait, false⟩ := by
  simp only [State.startProgress, beq_iff_eq]

theorem turningStage_start (s : State) (kind : OrderKind) (members : List Member) :
    turningStage (members.map (s.startProgress kind)) =
      if ∀ m ∈ members, (s.member m).position = kind.target then .settling else .turning := by
  have one : ∀ m, ((s.startProgress kind m).progress == .settled || (s.startProgress kind m).progress.count?.isSome) =
      decide ((s.member m).position = kind.target) := fun m => by
    rw [startProgress_eq]
    by_cases h : (s.member m).position = kind.target
    · simp [h, Progress.count?]
    · simp [h, Progress.count?]
  rw [turningStage, List.all_map]
  simp only [Function.comp_def, one, List.all_eq_true, decide_eq_true_eq]

/-- R38: the order turns: its members' pairs claimed off, its notices queued. -/
theorem beginTurning_eq (head : OrderHead) (s : State) {members : List OrderMember}
    (list : s.group.members.map (s.startProgress head.kind) = members) :
    let settles := ∀ m ∈ s.group.members, (s.member m).position = head.kind.target
    let begun : OrderHead := { head with turningBegun := true }
    beginTurning head s = postAll (if settles then [.orderStage .turning begun, .orderStage .settling begun]
        else [.orderStage .turning begun])
      (updatePairs (fun p r => if p ∈ s.group.members.map Member.pair then { r with command := .bothOff } else r)
        { s with order := .active (if settles then .settling else .turning) begun members
                            (s.time + s.turnTimeout s.group.members) }) := by
  intro settles begun
  have stage : turningStage members = if settles then .settling else .turning := list ▸ turningStage_start s _ _
  have named : ∀ p, State.orderPair
      { s with order := .active (turningStage members) begun members (s.time + s.turnTimeout s.group.members) } p = true ↔
      p ∈ s.group.members.map Member.pair := fun p => by
    rw [orderPair_iff, ← list]
    simp [OrderRec.activeMembers, State.startProgress]
  unfold beginTurning claimOff
  simp only [list]
  rw [show updatePairs _ _ = updatePairs _ _ from congrArg (updatePairs · _) (funext fun p => funext fun r =>
    if_congr (named p) rfl rfl), stage]
  by_cases settled : settles
  · simp only [if_pos settled, if_true]
    rfl
  · simp only [if_neg settled, reduceCtorEq, if_false]
    rfl

/-- Settles O21: the first failing check ends or holds the order; with none it turns. -/
theorem checkedGate : Obligations.CheckedGate := by
  intro head hold s ms fails begun atTarget
  have failing : (post (.orderStage .checked head) s).checkFails hold = fails := checkFails_eq_firstFailing s hold
  refine ⟨fun reason failed fresh => ?_, fun reason failed turned => ?_, fun passed => ?_⟩
  · rw [checkOrder]
    simp only [failing, failed, fresh]
    by_cases done : reason = .done
    · subst done
      simp only [fails, firstFailing_cons, firstFailing_nil] at failed
      split_ifs at failed <;> cases failed
    · simp only [endToIdle, if_neg done, Bool.false_eq_true, if_false]
      rfl
  · intro members
    rw [checkOrder]
    simp only [failing, failed, turned, if_true, enterFaultHeld, finalProgress_allFailed]
    rfl
  · have target : ∀ m, (s.member m).position = head.kind.target ↔ atTarget m := fun m => by
      show _ ↔ (s.member m).position = _
      cases head.kind <;> rfl
    intro members deadline settles
    have list : ms.map (s.startProgress head.kind) = members :=
      List.map_congr_left fun m _ => by simp only [startProgress_eq, target]
    have turns := beginTurning_eq head (post (.orderStage .checked head) s) list
    have settled : (∀ m ∈ ms, (s.member m).position = head.kind.target) ↔ settles :=
      forall_congr' fun m => forall_congr' fun _ => target m
    rw [checkOrder]
    simp only [failing, passed]
    refine turns.trans ?_
    by_cases h : settles
    · simp only [if_pos h, if_pos (show ∀ m ∈ (post (.orderStage .checked head) s).group.members,
        ((post (.orderStage .checked head) s).member m).position = head.kind.target from settled.2 h)]
      rfl
    · simp only [if_neg h, if_neg (show ¬∀ m ∈ (post (.orderStage .checked head) s).group.members,
        ((post (.orderStage .checked head) s).member m).position = head.kind.target from mt settled.1 h)]
      rfl

/-! ## Drive claims (O23) -/

theorem twinGear_eq_iff (hb : Headblock) (p : PairId) (same : p.hb = hb) : (twinGear hb = p) ↔ p.i = 9 := by
  obtain ⟨h, i⟩ := p
  subst same
  simp [twinGear, eq_comm]

theorem telescope_eq_iff (hb : Headblock) (p : PairId) (same : p.hb = hb) : (telescope hb = p) ↔ p.i = 8 := by
  obtain ⟨h, i⟩ := p
  subst same
  simp [telescope, eq_comm]

/-- Table 3-5, check 2: a member of an order in DRIVING, or the body pair of a set operation's step. -/
theorem drives_iff (s : State) (p : PairId) : s.drives p = true ↔
    if p.i.val < 8 then ∃ om ∈ s.order.activeMembers, om.member.pair = p ∧ om.progress = .driving
    else ∃ op, (s.setting.get p.hb).op = some op ∧
      p.i = (match op.step with | .telescoping _ => 8 | .gearUp | .gearDown => 9) := by
  unfold State.drives
  by_cases member : p.i.val < 8
  · have body : p.isBody = false := by simpa [PairId.isBody] using member
    rw [if_pos member, body]
    simp
  · have body : p.isBody = true := by simpa [PairId.isBody] using member
    rw [if_neg member, if_pos body]
    cases (s.setting.get p.hb).op with
    | none => simp
    | some op =>
      cases step : op.step <;>
        simp [step, SetStep.pair, twinGear_eq_iff _ _ rfl, telescope_eq_iff _ _ rfl]

/-- R67: the dead time of a coil has passed. -/
theorem deadTimePassed_iff (s : State) (p : PairId) (c : Side) : s.deadTimePassed p c = true ↔
    ∀ at0, (s.pair p).lastOn c.opposite = some at0 → s.deadTime p c ≤ (timeWord s.time - at0).toNat := by
  rw [State.deadTimePassed, State.deadTimeLeft, beq_iff_eq]
  cases (s.pair p).lastOn c.opposite with
  | none => simp
  | some at0 => simp [Nat.sub_eq_zero_iff_le, State.elapsed, State.msTime]

/-- Settles O23: the five checks of Table 3-5, one claim at a time. -/
theorem driveClaim : Obligations.DriveClaim := by
  intro s named coil p profile held t drives dead passed allowed
  have deadTime : s.deadTime p coil = dead := by
    simp only [State.deadTime, held, PairId.isBody, decide_eq_true_eq]
    rfl
  have isAllowed : s.driveAllowed p coil = true ↔ allowed := by
    simp only [State.driveAllowed, State.forceOff, Bool.and_eq_true, Bool.not_eq_true', bne_eq_false_iff_eq, bne_iff_ne,
      drives_iff, deadTimePassed_iff, deadTime, and_assoc]
    rfl
  have claimed : t.pair p = if named p = true ∧ s.driveAllowed p coil = true then { s.pair p with command := .on coil }
      else s.pair p := by
    simp only [t, pair_claimOn, Bool.and_eq_true]
  have taken : (named p = true ∧ s.driveAllowed p coil = true) ↔ (named p = true ∧ allowed) := and_congr_right' isAllowed
  exact ⟨fun h => claimed.trans (if_pos (taken.2 h)), fun h => claimed.trans (if_neg (mt taken.1 h)),
    claimOn_keeps s named coil⟩

end Sys2Proof.Machine
end

section
/-! SUPPORT. The link line, the raw levels, the chain, the plugs and the frame times, and the statements about them. -/

namespace Sys2Proof.Machine

-- One theorem at a time: proofs that wait for one another hold a thread each.
set_option Elab.async false

/-! ## The receiver (O47) -/

section
variable {s : State} {b : Byte}

theorem receiveByte_noise (h : s.link.rx = .hunting) (other : b ≠ 0xC3) : receiveByte b s = s := by
  rw [receiveByte, h]
  exact if_neg other

theorem receiveByte_start (h : s.link.rx = .hunting) (start : b = 0xC3) : receiveByte b s = setReceiver .length s := by
  rw [receiveByte, h]
  exact if_pos start

theorem receiveByte_length (h : s.link.rx = .length) (range : 2 ≤ b.toNat ∧ b.toNat ≤ 252) :
    receiveByte b s = setReceiver (.receiving b.toNat []) s := by
  rw [receiveByte, h]
  exact if_pos range

theorem receiveByte_badLength (h : s.link.rx = .length) (range : ¬(2 ≤ b.toNat ∧ b.toNat ≤ 252)) :
    receiveByte b s = post (.frameDiscarded .length none none) (setReceiver .hunting s) := by
  rw [receiveByte, h]
  exact if_neg range

theorem receiveByte_more {length : Nat} {got : List Byte} (h : s.link.rx = .receiving length got)
    (more : got.length + 1 < length + 2) : receiveByte b s = setReceiver (.receiving length (got ++ [b])) s := by
  rw [receiveByte, h]
  exact if_pos more

theorem receiveByte_last {length : Nat} {got : List Byte} (h : s.link.rx = .receiving length got)
    (last : ¬got.length + 1 < length + 2) :
    receiveByte b s = judgeFrame length (got ++ [b]) (setReceiver .hunting s) := by
  rw [receiveByte, h]
  exact if_neg last

end

/-- R162: a frame of the length announced is judged by its check. -/
theorem judgeFrame_whole (tag kind : Byte) (body check : List Byte) (s : State) :
    judgeFrame (body.length + 2) (tag :: kind :: body ++ check) s =
      if check = be16 (crc16 (byte (body.length + 2) :: tag :: kind :: body)) then arrive ⟨tag, kind, body⟩ s
      else post (.frameDiscarded .check none none) s := by
  have taken : (tag :: kind :: body ++ check).take (body.length + 2) = tag :: kind :: body := List.take_left' rfl
  have rest : (tag :: kind :: body ++ check).drop (body.length + 2) = check := List.drop_left' rfl
  rw [judgeFrame]
  simp only [taken, rest]
  rfl

theorem byteGap_hunting {s : State} (h : s.link.rx = .hunting) : byteGap s = s := by
  rw [byteGap, h]

theorem byteGap_inFrame {s : State} (h : s.link.rx ≠ .hunting) : byteGap s = discardFrame .length none none
    (setReceiver .hunting (advanceTo (s.link.lastByte + Config.byteGap) s)) := by
  rw [byteGap]
  cases rx : s.link.rx with
  | hunting => exact absurd rx h
  | length => rfl
  | receiving length got => rfl

/-- Settles O47: the receiver's three states, and the judgement of a frame. -/
theorem receiveLine : Obligations.ReceiveLine := by
  intro s b i row heard
  have received : exec i s = .next (finish s (receiveByte b s)) := by
    rcases List.mem_pair.1 row with rfl | rfl <;> rfl
  rw [received]
  refine ⟨fun rx other => ?_, fun rx start => ?_, fun rx low high => ?_, fun rx out => ?_, fun length got rx =>
    ⟨fun more => ?_, fun tag kind body check whole two counted => ?_⟩, fun rx => ?_, fun rx => ?_⟩
  · rw [receiveByte_noise rx other]
  · rw [receiveByte_start rx start]; rfl
  · rw [receiveByte_length rx ⟨low, high⟩]; rfl
  · rw [receiveByte_badLength rx (by omega)]; rfl
  · rw [receiveByte_more rx more]; rfl
  · intro sum
    have lengths := congrArg List.length whole
    simp only [List.length_append, List.length_cons, List.length_nil] at lengths
    subst counted
    have judged := judgeFrame_whole tag kind body check (setReceiver .hunting s)
    rw [receiveByte_last rx (by omega), whole]
    refine ⟨fun wrong => ?_, fun right zero => ?_, fun right c request => ?_⟩
    · rw [judged, if_neg wrong]; rfl
    · rw [judged, if_pos right, arrive, if_pos zero]
      rfl
    · rw [judged, if_pos right, exec_request c _ request]
      exact congrArg Host.Outcome.next (finish_congr_old rfl rfl _)
  · show execLinkByteGap s = _
    rw [execLinkByteGap, byteGap_hunting rx]
  · show execLinkByteGap s = _
    rw [execLinkByteGap, byteGap_inFrame rx]
    rfl

/-! ## Raw levels (O49) -/

/-- Settles O49: each of the three filters starts or cancels its time. -/
theorem rawLevels : Obligations.RawLevels := by
  intro s on
  refine ⟨fun same => ?_, fun other => ?_, fun hb same => ?_, fun hb other => ?_, fun input same => ?_,
    fun input other => ?_⟩
  · exact congrArg (fun u => Host.Outcome.next (finish s u)) (if_pos same)
  · exact congrArg (fun u => Host.Outcome.next (finish s u)) (if_neg other)
  · exact congrArg (fun u => Host.Outcome.next (finish s u)) (if_pos same)
  · exact congrArg (fun u => Host.Outcome.next (finish s u)) (if_neg other)
  · exact congrArg (fun u => Host.Outcome.next (finish s u)) (if_pos same)
  · exact congrArg (fun u => Host.Outcome.next (finish s u)) (if_neg other)

/-! ## The chain (O51) -/

theorem recognizeChain_open {s : State} (raw : s.trip.chainRawClosed = false) (due : Nat) :
    recognizeChain (advanceTo due s) =
      { s with time := max s.time due, trip := { s.trip with chainClosed := false, chainTimer := none } } := by
  rw [recognizeChain, advanceTo_trip, raw]
  rfl

section
variable {s : State} {due : Nat} (timer : s.trip.chainTimer = some due)
include timer

theorem tripEdge_taken (raw : s.trip.chainRawClosed = false) (closed : s.trip.chainClosed = true) : tripEdge s = tripByState
    { s with time := max s.time due, trip := { s.trip with chainClosed := false, chainTimer := none } } := by
  rw [tripEdge, timer, ← recognizeChain_open raw due]
  exact if_pos ⟨by simp [raw], closed⟩

theorem chainRearm_taken (raw : s.trip.chainRawClosed = true) (opened : s.trip.chainClosed = false) : chainRearm s =
    { s with time := max s.time due, trip := { s.trip with chainClosed := true, chainTimer := none } } := by
  rw [chainRearm, timer]
  refine (if_pos ⟨raw, by simp [opened]⟩).trans ?_
  rw [recognizeChain, advanceTo_trip, raw]
  rfl

end

theorem tripEdge_ignored {s : State} (h : s.trip.chainTimer = none ∨ s.trip.chainRawClosed = true ∨ s.trip.chainClosed = false) :
    tripEdge s = s := by
  rw [tripEdge]
  rcases h with timer | raw | opened
  · rw [timer]
  · cases s.trip.chainTimer <;> simp [raw]
  · cases s.trip.chainTimer <;> simp [opened]

theorem chainRearm_ignored {s : State}
    (h : s.trip.chainTimer = none ∨ s.trip.chainRawClosed = false ∨ s.trip.chainClosed = true) : chainRearm s = s := by
  rw [chainRearm]
  rcases h with timer | raw | closed
  · rw [timer]
  · cases s.trip.chainTimer <;> simp [raw]
  · cases s.trip.chainTimer <;> simp [closed]

theorem pendTrip_again {s : State} (h : s.trip.pending = true) : pendTrip s = s := by
  rw [pendTrip, if_pos h]

theorem pendTrip_first {s : State} (h : s.trip.pending = false) : pendTrip s =
    post (.holdState s.trip.state true s.trip.chainClosed s.trip.hold) { s with trip := { s.trip with pending := true } } := by
  rw [pendTrip, if_neg (by rw [h]; decide)]
  rfl

/-- Settles O51: the edge pends once; the re-arm recognizes the chain closed. -/
theorem pendingTripAndRearm : Obligations.PendingTripAndRearm := by
  refine fun s => ⟨fun due timer raw closed hold => ?_, fun due timer raw opened => ?_, fun ignored => ?_, fun ignored => ?_⟩
  · intro open'
    show execTripEdge s = _
    rw [execTripEdge, tripEdge_taken timer raw closed, tripByState, if_neg hold]
    cases pending : s.trip.pending with
    | true =>
      rw [pendTrip_again (by exact pending), if_pos rfl]
      have same : ({ s with time := max s.time due, trip := { s.trip with chainClosed := false, chainTimer := none } } : State) =
          open' := by
        simp only [open', ← pending]
      rw [same]
    | false =>
      rw [pendTrip_first (by exact pending), if_neg (by decide)]
  · show execTripChainRearm s = _
    rw [execTripChainRearm, chainRearm_taken timer raw opened]
  · show execTripEdge s = _
    rw [execTripEdge, tripEdge_ignored ignored]
  · show execTripChainRearm s = _
    rw [execTripChainRearm, chainRearm_ignored ignored]

/-! ## The plugs and the delays (O52) -/

theorem updateAttach_congr {hb : Headblock} {f g : Attach → Attach} {s : State}
    (h : f (s.attach.get hb) = g (s.attach.get hb)) : updateAttach hb f s = updateAttach hb g s := by
  unfold updateAttach
  rw [h]

/-- A change of attachment state rewrites the one manager's record. -/
theorem attach_changeAttach (hb : Headblock) (f : Attach → Attach) (further : List NoticeBody) (s : State) :
    (changeAttach hb f further s).attach = (updateAttach hb f s).attach := by
  have off : ∀ (b : Bool) (v : State), (if b then supplyOff hb v else v).attach = v.attach := fun b v => by
    split
    · exact (supplyOff_keeps v hb).attach_eq
    · rfl
  rw [changeAttach, (handOnAttach_keeps _ _ _).attach_eq, off, postAll_attach]

theorem plugSettled_taken {s : State} {hb : Headblock} {present : Bool} {due : Nat}
    (timer : (s.attach.get hb).plugTimer = some due) (raw : (s.attach.get hb).plugRaw = present)
    (other : (s.attach.get hb).plug ≠ present) : plugSettled hb present s =
      let plugged := updateAttach hb (fun a => { a with plug := present, plugTimer := none }) (advanceTo due s)
      if present then insertPlug hb plugged else removePlug hb plugged := by
  have recognized : recognizePlug hb (advanceTo due s) =
      updateAttach hb (fun a => { a with plug := present, plugTimer := none }) (advanceTo due s) :=
    updateAttach_congr (by simp only [advanceTo_attach, raw])
  unfold plugSettled
  simp only [timer, if_pos (And.intro raw other), recognized]

theorem attachState_plugged (hb : Headblock) (present : Bool) (s : State) :
    (updateAttach hb (fun a => { a with plug := present, plugTimer := none }) s).attachState hb = (s.attach.get hb).state := by
  rw [State.attachState, attach_updateAttach, if_pos rfl]

/-- Settles O52: the plug's two edges and the ends of the two delays. -/
theorem plugsAndDelays : Obligations.PlugsAndDelays := by
  intro s hb due a at0 plugged power
  refine ⟨fun timer raw out => ?_, fun timer raw inserted => ?_, fun state delay => ?_, fun next state delay => ?_⟩
  · have taken := plugSettled_taken timer raw (by rw [show (s.attach.get hb).plug = false from out]; decide)
    have inserted : insertPlug hb (plugged true) = if a.state = .empty then power (plugged true) else plugged true := by
      rw [insertPlug, attachState_plugged]
      rfl
    exact congrArg (fun u => Host.Outcome.next (finish s u)) (taken.trans inserted)
  · have taken := plugSettled_taken timer raw (by rw [show (s.attach.get hb).plug = true from inserted]; decide)
    have removed : removePlug hb (plugged false) = match a.state with
        | .empty | .releasing .empty => plugged false
        | .releasing _ => changeAttach hb (fun a => { a with state := .releasing .empty }) [] (plugged false)
        | _ => changeAttach hb (fun a =>
            { a with state := .releasing .empty, descriptor := none, profile := none, census := none
                     delayEnd := some (max s.time due + s.timing.powerDown) }) [] (plugged false) := by
      rw [removePlug, attachState_plugged]
      cases (at0.attach.get hb).state with
      | releasing next => cases next <;> rfl
      | _ => rfl
    exact congrArg (fun u => Host.Outcome.next (finish s u)) (taken.trans removed)
  · show execPowerUpDelayEnd hb s = _
    rw [execPowerUpDelayEnd, powerUpEnd, State.attachState, show (s.attach.get hb).state = _ from state,
      show (s.attach.get hb).delayEnd = _ from delay]
    rfl
  · intro empty
    show execPowerDownDelayEnd hb s = _
    rw [execPowerDownDelayEnd, powerDownEnd, State.attachState, show (s.attach.get hb).state = _ from state,
      show (s.attach.get hb).delayEnd = _ from delay]
    cases next with
    | off => rfl
    | powering => rfl
    | empty =>
      have attach : empty.attach.get hb = { a with state := .empty, delayEnd := none } := by
        rw [show empty.attach = _ from attach_changeAttach hb _ [] at0, attach_updateAttach, if_pos rfl]
      have inserted : insertPlug hb empty = power empty := by
        rw [insertPlug, State.attachState, attach, if_pos rfl]
        have keep : keeps attachReach at0 empty := changeAttach_keeps at0 hb _ []
        rw [enterPowering, keep.time_eq, keep.timing_eq]
      have ended : afterRelease hb .empty at0 = if a.plug then power empty else empty := by
        rw [← inserted]
        show (if (empty.attach.get hb).plug then _ else _) = _
        rw [attach]
      exact congrArg (fun u => Host.Outcome.next (finish s u)) ended

/-! ## The times of frames (O53) -/

/-- R135: the reply window of a master frame that has ended. -/
def windowOpened (hb : Headblock) (f : Flight) (s : State) : State :=
  updateBus hb (fun b => { b with flight := some { f with phase := .window, endTime := s.time } }) s

section
variable {s : State} {hb : Headblock} {f : Flight}

theorem masterFrameEnd_none (h : (s.bus.get hb).flight = none) : masterFrameEnd hb s = s := by
  rw [masterFrameEnd, h]

theorem holdOff_none (h : (s.bus.get hb).flight = none) (overlap : Bool) : holdOff hb overlap s = s := by
  rw [holdOff, h]

theorem masterFrameEnd_sent (h : (s.bus.get hb).flight = some f) (phase : f.phase ≠ .sending) :
    masterFrameEnd hb s = s := by
  rw [masterFrameEnd, h]
  exact if_neg phase

/-- R135: the end of a master frame opens the window; an EXCHANGE's notes its time. -/
theorem masterFrameEnd_sending (h : (s.bus.get hb).flight = some f) (phase : f.phase = .sending) : masterFrameEnd hb s =
    match f.kind with
    | .exchange image period =>
      updateBus hb (Bus.updateNode f.node (NodeRec.frameEnded s.time image period)) (windowOpened hb f s)
    | .identify | .diagRead _ => windowOpened hb f s := by
  unfold masterFrameEnd
  rw [h]
  refine (if_pos phase).trans ?_
  obtain ⟨node, kind, -, -, -, -, -, -⟩ := f
  cases kind <;> rfl

theorem holdOff_sending (h : (s.bus.get hb).flight = some f) (phase : f.phase = .sending) (overlap : Bool) :
    holdOff hb overlap s = s := by
  simp only [holdOff, h, phase]

theorem holdOff_window (h : (s.bus.get hb).flight = some f) (phase : f.phase = .window) (overlap : Bool) :
    holdOff hb overlap s = updateBus hb (fun b =>
      { b with flight := some { f with phase := .extended, overlap := f.overlap || overlap } }) s := by
  simp only [holdOff, h, phase]

theorem holdOff_extended (h : (s.bus.get hb).flight = some f) (phase : f.phase = .extended) (overlap : Bool) :
    holdOff hb overlap s = updateBus hb (fun b =>
      { b with flight := some { f with secondHoldOff := true, overlap := f.overlap || overlap } }) s := by
  simp only [holdOff, h]
  simp only [phase]

end

/-- Settles O53: the flight's phase decides. -/
theorem frameTimes : Obligations.FrameTimes := by
  intro s hb overlap
  refine ⟨fun none => ⟨?_, ?_⟩, fun f flight => ?_⟩
  · exact congrArg (fun u => Host.Outcome.next (finish s u)) (masterFrameEnd_none none)
  · exact congrArg (fun u => Host.Outcome.next (finish s u)) (holdOff_none none overlap)
  intro opened
  refine ⟨fun phase => ?_, fun phase => ?_, fun phase kind => ?_, fun image period phase kind => ?_, fun phase => ?_,
    fun phase => ?_⟩
  · exact congrArg (fun u => Host.Outcome.next (finish s u)) (holdOff_sending flight phase overlap)
  · exact congrArg (fun u => Host.Outcome.next (finish s u)) (masterFrameEnd_sent flight phase)
  · refine congrArg (fun u => Host.Outcome.next (finish s u)) ((masterFrameEnd_sending flight phase).trans ?_)
    cases h : f.kind with
    | exchange image period => exact absurd h (kind image period)
    | identify => rfl
    | diagRead block => rfl
  · intro ms stretch on
    have ended : NodeRec.frameEnded s.time image period = fun r =>
        { r with goodFrame := stretch r.goodFrame, onFrameLow := on 0 1 r.onFrameLow
                 onFrameHigh := on 2 3 r.onFrameHigh } := funext fun r => by
      simp only [NodeRec.frameEnded, onFrameAfter, Bool.or_eq_true]
      rfl
    refine congrArg (fun u => Host.Outcome.next (finish s u)) ((masterFrameEnd_sending flight phase).trans ?_)
    simp only [kind, ended]
    rfl
  · exact congrArg (fun u => Host.Outcome.next (finish s u)) (holdOff_window flight phase overlap)
  · exact congrArg (fun u => Host.Outcome.next (finish s u)) (holdOff_extended flight phase overlap)

end Sys2Proof.Machine
end

section
/-! SUPPORT. The timed events and the cab, and the statements about them. -/

namespace Sys2Proof.Machine

-- One theorem at a time: proofs that wait for one another hold a thread each.
set_option Elab.async false

/-! ## Pairs and their nodes (R61) -/

theorem node_val (p : PairId) : p.node.val = if p.i.val < 8 then p.i.val % 4 else 4 := by
  unfold PairId.node
  split <;> rfl

theorem mem_nodePairs {hb : Headblock} {n : NodeIx} {p : PairId} : p ∈ nodePairs hb n ↔ p.hb = hb ∧ p.node = n := by
  rw [Fin.ext_iff, node_val]
  obtain ⟨h, i⟩ := p
  have pairIx := i.isLt
  have nodeIx := n.isLt
  unfold nodePairs
  by_cases small : n.val < 4
  · rw [dif_pos small, List.mem_pair, PairId.mk.injEq, PairId.mk.injEq, ← and_or_left, Fin.ext_iff, Fin.ext_iff]
    refine and_congr_right fun _ => ?_
    show i.val = n.val ∨ i.val = n.val + 4 ↔ (if i.val < 8 then i.val % 4 else 4) = n.val
    split <;> omega
  · rw [dif_neg small]
    by_cases four : n.val = 4
    · rw [if_pos four, bodyPairs, telescope, twinGear, List.mem_pair, PairId.mk.injEq, PairId.mk.injEq, ← and_or_left,
        Fin.ext_iff, Fin.ext_iff]
      refine and_congr_right fun _ => ?_
      show i.val = 8 ∨ i.val = 9 ↔ (if i.val < 8 then i.val % 4 else 4) = n.val
      split <;> omega
    · rw [if_neg four]
      refine iff_of_false (by simp) fun ⟨_, node⟩ => ?_
      split at node <;> omega

/-! ## Confirming coils off (R73, R83) -/

/-- R73, R83: what leaves the awaiting-off set, and the report when that empties it. -/
theorem dropAwaiting_eq (gone : PairId → Bool) (s : State) : dropAwaiting gone s = confirmedOff gone s := by
  unfold dropAwaiting confirmedOff reportConfirmedOff
  by_cases empties : s.awaitingOff ≠ [] ∧ (s.awaitingOff.filter fun p => !gone p) = []
  · have emptied : ((s.awaitingOff.filter fun p => !gone p).isEmpty && !s.awaitingOff.isEmpty) = true := by
      simp [empties.1, empties.2]
    simp only [emptied, if_true]
    cases state : s.trip.state with
    | holding cause => simp only [if_pos empties]; rfl
    | clear => rfl
    | held cause => rfl
  · have kept : ((s.awaitingOff.filter fun p => !gone p).isEmpty && !s.awaitingOff.isEmpty) = false := by
      rw [Bool.and_eq_false_iff, List.isEmpty_eq_false_iff, Bool.not_eq_false', List.isEmpty_iff]
      by_cases none : s.awaitingOff = []
      · exact .inr none
      · exact .inl fun filtered => empties ⟨none, filtered⟩
    simp only [kept, Bool.false_eq_true, if_false]
    cases state : s.trip.state with
    | holding cause => simp only [if_neg empties]
    | clear => rfl
    | held cause => rfl

theorem confirmedOff_congr {gone gone' : PairId → Bool} {s : State} (h : ∀ p ∈ s.awaitingOff, gone p = gone' p) :
    confirmedOff gone s = confirmedOff gone' s := by
  unfold confirmedOff
  rw [List.filter_congr fun p hp => congrArg Bool.not (h p hp)]

/-! ## Times of the buses (O58) -/

theorem low_iff (p : PairId) : p.low = true ↔ p.i.val < 4 ∨ p.i.val = 8 := by
  simp [PairId.low]

/-- R72: the watchdog is out four periods after the later of the two frames. -/
theorem offTime_eq (r : NodeRec) (p : PairId) :
    r.offTime p = match r.goodFrame, if p.i.val < 4 ∨ p.i.val = 8 then r.onFrameLow else r.onFrameHigh with
      | none, none => 0
      | some f, none | none, some f => f.endTime + 4 * f.longest
      | some f, some g => max f.endTime g.endTime + 4 * max f.longest g.longest := by
  simp only [NodeRec.offTime, low_iff]
  cases r.goodFrame <;> cases (if p.i.val < 4 ∨ p.i.val = 8 then r.onFrameLow else r.onFrameHigh) <;> rfl

theorem flightCarries_iff (s : State) (p : PairId) : s.flightCarries p = true ↔
    ∃ f image period, (s.bus.get p.hb).flight = some f ∧ f.node = p.node ∧ f.kind = .exchange image period ∧
      (imageEcho p image).anyOn = true := by
  unfold State.flightCarries
  cases (s.bus.get p.hb).flight with
  | none => simp
  | some f => cases kind : f.kind <;> simp [kind]

theorem stillSending_iff (s : State) (p : PairId) : s.stillSending p = true ↔
    ∃ f image period, (s.bus.get p.hb).flight = some f ∧ f.node = p.node ∧ f.kind = .exchange image period ∧
      f.phase = .sending ∧ (imageEcho p image).anyOn = true := by
  rw [State.stillSending, Bool.and_eq_true, flightCarries_iff]
  constructor
  · rintro ⟨⟨f, image, period, flight, node, kind, on⟩, sending⟩
    rw [flight] at sending
    exact ⟨f, image, period, flight, node, kind, by simpa using sending, on⟩
  · rintro ⟨f, image, period, flight, node, kind, sending, on⟩
    exact ⟨⟨f, image, period, flight, node, kind, on⟩, by simp [flight, sending]⟩

theorem lostOffTimes_lost {s : State} {hb : Headblock} {n : NodeIx} {r : NodeRec} (node : s.node hb n = some r)
    (lost : r.link = .lost) : s.lostOffTimes hb n =
      ((nodePairs hb n).filter fun p => s.awaitingOff.contains p && !s.stillSending p).map r.offTime := by
  rw [State.lostOffTimes, node]
  exact if_pos lost

theorem lostOffTimes_online {s : State} {hb : Headblock} {n : NodeIx} (h : ∀ r, s.node hb n = some r → r.link = .online) :
    s.lostOffTimes hb n = [] := by
  rw [State.lostOffTimes]
  cases node : s.node hb n with
  | none => rfl
  | some r => exact if_neg (by rw [h r node]; decide)

theorem lostNodeOffTime_nil {s : State} {hb : Headblock} {n : NodeIx} (h : s.lostOffTimes hb n = []) :
    lostNodeOffTime hb n s = s := by
  rw [lostNodeOffTime, h]

/-- The least of the times that a list gives is the one taken. -/
theorem foldl_min_eq {least due : Nat} {dues : List Nat} (mem : least ∈ due :: dues) (le : ∀ x ∈ due :: dues, least ≤ x) :
    dues.foldl min due = least := by
  have lower : ∀ (l : List Nat) (d : Nat), l.foldl min d ≤ d ∧ (∀ x ∈ l, l.foldl min d ≤ x) ∧ l.foldl min d ∈ d :: l := by
    intro l
    induction l with
    | nil => simp
    | cons x l ih =>
      intro d
      obtain ⟨below, all, isIn⟩ := ih (min d x)
      refine ⟨below.trans (min_le_left d x), fun y hy => ?_, ?_⟩
      · rcases List.mem_cons.1 hy with rfl | hy
        · exact below.trans (min_le_right d y)
        · exact all y hy
      · rcases List.mem_cons.1 isIn with eq | hy
        · rw [List.foldl_cons, eq]
          rcases min_choice d x with h | h <;> simp [h]
        · exact List.mem_cons_of_mem _ (List.mem_cons_of_mem _ hy)
  obtain ⟨below, all, isIn⟩ := lower dues due
  refine le_antisymm ?_ (le _ isIn)
  rcases List.mem_cons.1 mem with rfl | hy
  · exact below
  · exact all _ hy

/-- R72: at the earliest time that awaited pairs wait for, those whose time it is are confirmed off. -/
theorem lostNodeOffTime_least {s : State} {hb : Headblock} {n : NodeIx} {r : NodeRec} (node : s.node hb n = some r)
    (lost : r.link = .lost) {p : PairId} (waits : p ∈ s.awaitingOff ∧ p ∈ nodePairs hb n ∧ s.stillSending p = false)
    (least : ∀ q, q ∈ s.awaitingOff ∧ q ∈ nodePairs hb n ∧ s.stillSending q = false → r.offTime p ≤ r.offTime q) :
    lostNodeOffTime hb n s = confirmLost hb n (advanceTo (r.offTime p) s) := by
  have listed : ∀ x, x ∈ s.lostOffTimes hb n ↔
      ∃ q, (q ∈ s.awaitingOff ∧ q ∈ nodePairs hb n ∧ s.stillSending q = false) ∧ r.offTime q = x := fun x => by
    rw [lostOffTimes_lost node lost]
    simp only [List.mem_map, List.mem_filter, List.contains_iff_mem, Bool.and_eq_true, Bool.not_eq_true']
    exact exists_congr fun q => and_congr_left fun _ => and_left_comm
  have mem := (listed (r.offTime p)).2 ⟨p, waits, rfl⟩
  unfold lostNodeOffTime
  cases times : s.lostOffTimes hb n with
  | nil => rw [times] at mem; cases mem
  | cons due dues =>
    have earliest : dues.foldl min due = r.offTime p := by
      rw [times] at mem
      refine foldl_min_eq mem fun x hx => ?_
      obtain ⟨q, hq, rfl⟩ := (listed x).1 (times ▸ hx)
      exact least q hq
    rw [← earliest]

theorem lostAndOff_iff {s : State} {p : PairId} {r : NodeRec} (node : s.node p.hb p.node = some r) (lost : r.link = .lost) :
    s.lostAndOff p = true ↔ r.offTime p ≤ s.time ∧ s.stillSending p = false := by
  rw [State.lostAndOff, node]
  simp [lost]

/-- R73: the awaited pairs of a LOST node that are confirmed off by its time. -/
theorem confirmLost_eq {s : State} {hb : Headblock} {n : NodeIx} {r : NodeRec} (node : s.node hb n = some r)
    (lost : r.link = .lost) : confirmLost hb n s = confirmedOff (fun q => decide ((q ∈ s.awaitingOff ∧ q ∈ nodePairs hb n ∧
      s.stillSending q = false) ∧ r.offTime q ≤ s.time)) s := by
  rw [confirmLost, dropAwaiting_eq]
  refine confirmedOff_congr fun q awaited => ?_
  rw [Bool.eq_iff_iff, decide_eq_true_eq, Bool.and_eq_true, Bool.and_eq_true, beq_iff_eq, beq_iff_eq, mem_nodePairs]
  constructor
  · rintro ⟨⟨head, address⟩, off⟩
    obtain ⟨time, sent⟩ := (lostAndOff_iff (by rw [head, address]; exact node) lost).1 off
    exact ⟨⟨awaited, ⟨head, address⟩, sent⟩, time⟩
  · rintro ⟨⟨-, ⟨head, address⟩, sent⟩, time⟩
    exact ⟨⟨head, address⟩, (lostAndOff_iff (by rw [head, address]; exact node) lost).2 ⟨time, sent⟩⟩

theorem nodeDue_begun {s : State} {hb : Headblock} {n : NodeIx} {r : NodeRec} {begun : Nat} (node : s.node hb n = some r)
    (last : r.lastBegun = some begun) : nodeDue hb n s = advanceTo (begun + s.timing.period) s := by
  rw [nodeDue, node, Option.bind_some, last]

theorem nodeDue_never {s : State} {hb : Headblock} {n : NodeIx} (h : ∀ r, s.node hb n = some r → r.lastBegun = none) :
    nodeDue hb n s = s := by
  have none : (s.node hb n).bind NodeRec.lastBegun = none := by
    cases node : s.node hb n with
    | none => rfl
    | some r => exact h r node
  rw [nodeDue, none]

theorem probeDue_begun {s : State} {hb : Headblock} {prior : Prior} {begun : Nat}
    (state : (s.attach.get hb).state = .linkDown prior) (last : (s.bus.get hb).lastProbe = some begun) :
    probeDue hb s = advanceTo (begun + s.timing.period) s := by
  rw [probeDue, State.attachState, state, last]

theorem probeDue_none {s : State} {hb : Headblock}
    (h : (∀ prior, (s.attach.get hb).state ≠ .linkDown prior) ∨ (s.bus.get hb).lastProbe = none) : probeDue hb s = s := by
  unfold probeDue State.attachState
  rcases h with state | last
  · cases attach : (s.attach.get hb).state with
    | linkDown prior => exact absurd attach (state prior)
    | _ => rfl
  · rw [last]
    cases (s.attach.get hb).state <;> rfl

theorem expireLastOn_some {s : State} {p : PairId} {coil : Side} {at0 : Word} :
    (s.pair p).lastOn coil = some at0 → expireLastOn p coil s = updatePairs (fun q r => if q = p then (match coil with
        | .first => { r with lastOnFirst := none }
        | .second => { r with lastOnSecond := none }) else r)
      { s with time := s.time + (500 - (timeWord s.time - at0).toNat) } := by
  intro h
  have advanced : advanceTo (s.time + (Config.lastOnLife - s.elapsed at0)) s =
      { s with time := s.time + (500 - (timeWord s.time - at0).toNat) } := by
    rw [advanceTo, max_eq_right (Nat.le_add_right _ _)]
    rfl
  unfold expireLastOn
  rw [h]
  simp only [advanced]
  cases coil <;> rfl

theorem expireLastOn_none {s : State} {p : PairId} {coil : Side} (h : (s.pair p).lastOn coil = none) :
    expireLastOn p coil s = s := by
  rw [expireLastOn, h]

/-- Settles O58: each timed event of the buses takes the time to its moment. -/
theorem busTimes : Obligations.BusTimes := by
  refine ⟨fun r p => offTime_eq r p, stillSending_iff, fun s => ⟨fun hb n => ⟨fun r begun node last => ?_, fun never => ?_⟩,
    fun hb => ⟨fun prior begun state last => ?_, fun none => ?_⟩, fun p coil => ⟨fun at0 last => ?_, fun never => ?_⟩,
    fun hb n => ⟨fun online => ?_, fun r node lost => ?_⟩⟩⟩
  · exact congrArg (fun u => Host.Outcome.next (finish s u)) (nodeDue_begun node last)
  · exact congrArg (fun u => Host.Outcome.next (finish s u)) (nodeDue_never never)
  · exact congrArg (fun u => Host.Outcome.next (finish s u)) (probeDue_begun state last)
  · exact congrArg (fun u => Host.Outcome.next (finish s u)) (probeDue_none none)
  · exact congrArg (fun u => Host.Outcome.next (finish s u)) (expireLastOn_some last)
  · exact congrArg (fun u => Host.Outcome.next (finish s u)) (expireLastOn_none never)
  · exact congrArg (fun u => Host.Outcome.next (finish s u)) (lostNodeOffTime_nil (lostOffTimes_online online))
  · intro waits
    refine ⟨fun none => ?_, fun p hp least => ?_⟩
    · refine congrArg (fun u => Host.Outcome.next (finish s u)) (lostNodeOffTime_nil ?_)
      rw [lostOffTimes_lost node lost, List.map_eq_nil_iff, List.filter_eq_nil_iff]
      intro p served awaited
      rw [Bool.and_eq_true, List.contains_iff_mem, Bool.not_eq_true'] at awaited
      exact none p ⟨awaited.1, served, awaited.2⟩
    · intro now
      refine congrArg (fun u => Host.Outcome.next (finish s u)) ((lostNodeOffTime_least node lost hp least).trans ?_)
      exact confirmLost_eq (s := advanceTo (r.offTime p) s) node lost

/-! ## Deadlines (O59) -/

/-- R65: the pairs of a spreader's body node let go. -/
theorem letGo_bodyPairOf (hb : Headblock) (s : State) : letGo (bodyPairOf hb) s =
    updatePairs (fun p r => if p.hb = hb ∧ 8 ≤ p.i.val then { r with command := .bothOff, offMark := false } else r) s := by
  unfold letGo
  simp only [bodyPairOf_iff]

theorem confirmLate_proposed {s : State} {head : OrderHead} {due : Nat} (h : s.order = .proposed head due) :
    confirmLate s = postAll [.orderStage .idle head, .orderEnd head .ended .confirmLate []]
      { s with time := max s.time due, order := .idle } := by
  rw [confirmLate, h]
  rfl

/-- R48: the members that are not SETTLED at the turn deadline are FAILED. -/
theorem turnLate_active {s : State} {stage : ActiveStage} {head : OrderHead} {members : List OrderMember} {due : Nat}
    (h : s.order = .active stage head members due) :
    turnLate s = heldOrder head (members.map fun om => if om.progress = .settled then om else { om with progress := .failed })
      .turnTimeout { s with time := max s.time due } := by
  have failed : (members.map fun om => if om.progress != .settled then { om with progress := .failed } else om) =
      members.map fun om => if om.progress = .settled then om else { om with progress := .failed } :=
    List.map_congr_left fun om _ => by by_cases settled : om.progress = .settled <;> simp [settled]
  rw [turnLate, h]
  refine (abortOrder_active (s := advanceTo due s) h _ _).trans ?_
  rw [failed]
  rfl

/-- The members keep their names when their progress is rewritten, so their pairs are the same. -/
theorem exists_pair_map {f : OrderMember → OrderMember} (name : ∀ om, (f om).member = om.member) (members : List OrderMember)
    (p : PairId) : (∃ om ∈ members.map f, om.member.pair = p) ↔ ∃ om ∈ members, om.member.pair = p := by
  simp [name]

theorem memberDeadTime_waiting {s : State} {stage : ActiveStage} {head : OrderHead} {members : List OrderMember} {due : Nat}
    {m : Member} (h : s.order = .active stage head members due)
    (waiting : ∃ om ∈ members, om.member = m ∧ om.progress = .deadWait) : memberDeadTime m s =
      setProgress (members.map fun om => if om.member = m then { om with progress := .driving } else om)
        { s with time := s.time + s.deadTimeLeft m.pair head.kind.coil } := by
  have found : (members.any fun om => om.member == m && om.progress == .deadWait) = true := by simpa using waiting
  unfold memberDeadTime
  simp only [h, found, if_true, advanceTo, max_eq_right (Nat.le_add_right _ _)]

theorem stepDeadTime_waiting {s : State} {hb : Headblock} {op : SetOp} (h : (s.setting.get hb).op = some op)
    (waiting : op.phase = .deadWait) : stepDeadTime hb s = claimOn (fun p => p = op.step.pair hb) op.step.coil
      (updateSetting hb (fun u => { u with op := some { op with phase := .driving } })
        { s with time := s.time + s.deadTimeLeft (op.step.pair hb) op.step.coil }) := by
  unfold stepDeadTime
  rw [h]
  refine (if_pos waiting).trans ?_
  rw [advanceTo, max_eq_right (Nat.le_add_right _ _)]
  rfl

theorem setLate_running {s : State} {hb : Headblock} {op : SetOp} (h : (s.setting.get hb).op = some op) : setLate hb s =
    compose (post (.setEnd hb .timeout op.target op.step.name none) (updateSetting hb (fun _ => ⟨none, 0, none⟩)
      (updatePairs (fun p r => if p.hb = hb ∧ 8 ≤ p.i.val then { r with command := .bothOff, offMark := false } else r)
        { s with time := max s.time op.deadline }))) := by
  unfold setLate
  rw [h]
  refine (abortSetOp_some (s := advanceTo op.deadline s) h .timeout).trans ?_
  rw [letGo_bodyPairOf]
  rfl

/-- Settles O59: each deadline takes the time to its moment. -/
theorem deadlines : Obligations.Deadlines := by
  refine fun s => ⟨fun head due order => ?_, fun stage head members due order => ?_,
    fun stage head members due m order waiting => ?_, fun hb op running waiting => ?_, fun hb op running => ?_⟩
  · exact congrArg (fun u => Host.Outcome.next (finish s u)) (confirmLate_proposed order)
  · intro failed
    refine congrArg (fun u => Host.Outcome.next (finish s u)) ((turnLate_active order).trans ?_)
    rw [heldOrder]
    simp only [exists_pair_map (f := fun om => if om.progress = .settled then om else { om with progress := .failed })
      (fun om => by split <;> rfl)]
    rfl
  · exact congrArg (fun u => Host.Outcome.next (finish s u)) (memberDeadTime_waiting order waiting)
  · exact congrArg (fun u => Host.Outcome.next (finish s u)) (stepDeadTime_waiting running waiting)
  · exact congrArg (fun u => Host.Outcome.next (finish s u)) (setLate_running running)

/-! ## The cab (O60) -/

theorem settleCab_eq {s : State} {input : CabInput} {raw : Bool} (h : (s.cabIn input).raw = raw) :
    settleCab input s = updateCab input (fun c => { c with level := some raw, timer := none }) s := by
  have same : (Vector.ofFn fun j => if j = input.ix then { s.cab.get j with level := some (s.cab.get j).raw, timer := none }
      else s.cab.get j) = Vector.ofFn fun j => if j = input.ix then { s.cab.get j with level := some raw, timer := none }
      else s.cab.get j := congrArg Vector.ofFn (funext fun j => by
    split
    · next here => rw [here, show (s.cab.get input.ix).raw = raw from h]
    · rfl)
  unfold settleCab updateCab
  rw [same]

/-- Table 2-6: the refusal of a press is that of the first check that fails. -/
theorem pressRefusal_eq_firstFailing (s : State) (kind : OrderKind) : s.pressRefusal kind = firstFailing
    [(decide (s.authority = .cabOnly), if s.confirmed = some (kind, s.time) then CabReason.wrongButton else .authority),
      (decide (s.trip.state = .clear), .hold), (decide (s.order.stage ≠ .faultHeld), .held),
      (decide (s.order = .idle), .busy), (decide (s.group.state ≠ .notReady), .notReady)] := by
  simp only [State.pressRefusal, State.confirmedNow, firstFailing_cons, firstFailing_nil, bne_iff_ne, ne_eq, beq_iff_eq,
    isFaultHeld_iff, not_not]

theorem pressOrder_eq (kind : OrderKind) (s : State) : pressOrder kind s = match s.order with
    | .proposed head _ =>
      if head.kind = kind then refusePress kind.button .wrongButton s else endToIdle head .cabCancel [] s
    | _ => match s.pressRefusal kind with
      | some reason => refusePress kind.button reason s
      | none => checkOrder ⟨kind, .cab, false⟩ none s := by
  unfold pressOrder
  cases s.order <;> rfl

theorem pressConfirm_eq (s : State) : pressConfirm s = match s.order with
    | .proposed head _ => checkOrder head none { s with confirmed := some (head.kind, s.time) }
    | _ => refusePress .confirm .noOrder s := by
  unfold pressConfirm
  cases s.order <;> rfl

/-- Table 9-2: what a change of a debounced level is handed to. -/
theorem handOnCab_eq (input : CabInput) (on : Bool) (s : State) : handOnCab input on s = match input, on with
    | .lockPb, true => pressOrder .lock s
    | .unlockPb, true => pressOrder .unlock s
    | .confirmPb, true => pressConfirm s
    | .bypassKey, false => leaveBypass .key s
    | _, _ => s := by
  cases input <;> cases on <;> rfl

/-- Settles O60: the interval's end, then Table 9-2. -/
theorem cabInputs : Obligations.CabInputs := by
  intro s
  refine ⟨rfl, fun input due timer => ?_⟩
  intro raw t refused press confirm changed
  have settled : settleCab input (advanceTo due s) = t := settleCab_eq rfl
  have ended : cabDebounceEnd input s = if changed then handOnCab input raw t else t := by
    unfold cabDebounceEnd
    simp only [timer, settled]
    rfl
  have pressed : ∀ kind, pressOrder kind t = press kind kind.button := fun kind => by
    rw [pressOrder_eq, pressRefusal_eq_firstFailing]
    rfl
  have confirmed : pressConfirm t = confirm := by
    rw [pressConfirm_eq]
    rfl
  refine congrArg (fun u => Host.Outcome.next (finish s u)) (ended.trans ?_)
  rw [ite_not]
  split
  · rw [handOnCab_eq, pressed, pressed, confirmed]
    rfl
  · rfl

end Sys2Proof.Machine
end

section
/-! SUPPORT. The three starts, and the statement about them. -/

namespace Sys2Proof.Machine

-- One theorem at a time: proofs that wait for one another hold a thread each.
set_option Elab.async false

/-! ## Notices that find room -/

/-- R175: notices that find room stand at the end of the queue in their order. -/
theorem foldl_post_room (now : Word) (bodies : List NoticeBody) (n : NoticeUnit)
    (room : n.queue.length + bodies.length ≤ Config.noticeCapacity) (clear : n.overrun = false) :
    (bodies.foldl (NoticeUnit.post now) n).queue.map Notice.body = n.queue.map Notice.body ++ bodies ∧
      (bodies.foldl (NoticeUnit.post now) n).overrun = false := by
  induction bodies generalizing n with
  | nil => simp [clear]
  | cons body rest ih =>
    have posted : NoticeUnit.post now n body = ⟨n.queue ++ [⟨now, n.overrun, body⟩], false⟩ :=
      if_pos (by simp only [List.length_cons] at room; omega)
    obtain ⟨bodies, overrun⟩ := ih ⟨n.queue ++ [⟨now, n.overrun, body⟩], false⟩
      (by simp only [List.length_append, List.length_cons, List.length_nil] at room ⊢; omega) rfl
    rw [List.foldl_cons, posted]
    exact ⟨bodies.trans (by simp), overrun⟩

theorem postAll_room {s : State} (bodies : List NoticeBody) (empty : s.notices = ⟨[], false⟩)
    (room : bodies.length ≤ Config.noticeCapacity) :
    (postAll bodies s).notices.queue.map Notice.body = bodies ∧ (postAll bodies s).notices.overrun = false := by
  have posted := foldl_post_room s.msTime bodies s.notices (by rw [empty]; simpa using room) (by rw [empty])
  rw [empty] at posted
  unfold postAll
  rw [empty]
  exact posted

/-! ## An action's end with nothing watched and the group evaluated -/

theorem hits_of_no_watch {s : State} (h : s.watches = []) : s.hits = [] := by
  rw [State.hits, List.filterMap_eq_nil_iff]
  intro i _
  unfold State.hit
  rw [h]
  split <;> rfl

/-- The notices of an action's end that follows its own group record, nothing watched: the permits that change. -/
theorem finish_notices_unwatched {s : State} (watches : s.watches = []) (group : (grouped s).group = s.group) :
    (finish s s).notices = (postAll (State.permitNotices (grouped s)) s).notices := by
  have mode : (grouped s).mode = s.mode := (grouped_keeps s).mode_eq
  have noGroup : postGroup s (grouped s) = grouped s := by
    rw [postGroup, if_pos ⟨mode, group⟩]
    rfl
  have none : (evaluated s s).hits = [] :=
    hits_of_no_watch (((grouped_evaluated_keeps s s).watches_eq.trans (grouped_keeps s).watches_eq).trans watches)
  rw [finish_notices, none, noGroup, if_pos ⟨mode, group⟩, List.nil_append, List.append_nil]

/-! ## Buses on which nothing is sent -/

theorem choice_unserved {s : State} {hb : Headblock}
    (h : (s.attach.get hb).state = .empty ∨ ∃ next, (s.attach.get hb).state = .releasing next) : s.choice hb = none := by
  unfold State.choice State.attachState
  rcases h with state | ⟨next, state⟩ <;> rw [state]

/-- With no node and no spreader in service the buses are left alone. -/
theorem finish_bus_unserved {old s : State} (nodes : ∀ hb n, s.node hb n = none)
    (states : ∀ hb, (s.attach.get hb).state = .empty ∨ ∃ next, (s.attach.get hb).state = .releasing next) :
    (finish old s).bus = s.bus := by
  have synced : ∀ hb, syncBus hb s = s := fun hb => syncBus_of_written fun n r node => by rw [nodes hb n] at node; cases node
  have bus : (takeSignals (evaluated old s)).bus = s.bus := by
    rw [noticed_bus, grouped, synced, synced]
    rfl
  have attach := noticed_attach old s
  have idle : ∀ hb u, u.attach = s.attach → arbitrate hb u = u := fun hb u same =>
    arbitrate_of_idle (choice_unserved (by rw [same]; exact states hb))
  have line : ∀ u : State, (transmit u).bus = u.bus := fun _ => rfl
  rw [finish_eq_evaluated, sent, line, idle .a _ attach, idle .b _ attach, bus]

theorem finish_node_none {old s : State} {hb : Headblock} {n : NodeIx} (h : s.node hb n = none) :
    (finish old s).node hb n = none := by
  have kept : ((finish old s).node hb n).map NodeRec.received = (s.node hb n).map NodeRec.received :=
    finish_keeps s old .nodes (by decide) hb n
  rw [h, Option.map_none, Option.map_eq_none_iff] at kept
  exact kept

/-- R143: a diagnostic frame belongs to the transfer that stands. -/
theorem transfer_of_choice {s : State} {hb : Headblock} {d : Transfer} {rowTwo : Bool}
    (h : s.choice hb = some (.diag d rowTwo)) : (s.bus.get hb).transfer = some d := by
  have inService : s.choiceInService hb = some (.diag d rowTwo) := by
    unfold State.choice at h
    split at h
    · cases census : (s.attach.get hb).census <;> rw [census] at h <;> cases h
    · cases census : (s.attach.get hb).census <;> rw [census] at h <;> cases h
    · split at h <;> cases h
    · exact h
    · exact h
    all_goals cases h
  simp only [State.choiceInService] at inService
  split at inService
  · cases inService
  · next transfer _ =>
    split at inService
    · cases inService; exact transfer
    · cases inService
  · cases inService
  · next transfer _ => cases inService; exact transfer
  · cases inService

theorem transfer_arbitrate {s : State} {hb : Headblock} (h : (s.bus.get hb).transfer = none) :
    ((arbitrate hb s).bus.get hb).transfer = none := by
  rcases arbitrate_cases hb s with ⟨same, -⟩ | ⟨-, ⟨m, -, begun⟩ | ⟨m, -, begun⟩ | ⟨d, rowTwo, choice, -⟩⟩
  · rw [same, h]
  · rw [begun, beginExchange, bus_updateBus, if_pos rfl]; exact h
  · rw [begun, beginIdentify, bus_updateBus, if_pos rfl]; exact h
  · rw [transfer_of_choice choice] at h; cases h

theorem finish_transfer_none {old s : State} {hb : Headblock} (h : (s.bus.get hb).transfer = none) :
    ((finish old s).bus.get hb).transfer = none := by
  obtain ⟨u, -, bus, after⟩ := bus_sent (takeSignals (evaluated old s)) hb
  rw [finish_eq_evaluated, after]
  refine transfer_arbitrate ?_
  rw [bus, noticed_bus, bus_grouped]
  exact h

/-! ## Power-on and the COLD restart (R172, R173) -/

/-- A power-on or a COLD restart, which differ in the buses and the attachment managers. -/
def startedCold (kind : StartKind) (bus : PerHead Bus) (attach : PerHead Attach) (s : State) : State :=
  postStart kind noSetOps { powerOnState s with bus := bus, attach := attach }

theorem powerOn_eq (s : State) : powerOn s = startedCold .powerOn (.ofFn fun _ => .reset)
    (.ofFn fun hb => .reset (s.attach.get hb).plugRaw) s := rfl

theorem coldStart_eq (s : State) : coldStart s = startedCold .cold (.ofFn fun hb => (s.bus.get hb).cold)
    (.ofFn fun hb => (s.attach.get hb).cold) s := rfl

/-- R130, R149: the buses and attachment managers after a power-on or a COLD restart: nothing known, nothing supplied. -/
structure Emptied (bus : PerHead Bus) (attach : PerHead Attach) (s : State) : Prop where
  nodes : ∀ hb n, (bus.get hb).node n = none
  urgent : ∀ hb, (bus.get hb).urgent = []
  transfer : ∀ hb, (bus.get hb).transfer = none
  state : ∀ hb, (attach.get hb).state = .empty ∨ ∃ next, (attach.get hb).state = .releasing next
  descriptor : ∀ hb, (attach.get hb).descriptor = none
  profile : ∀ hb, (attach.get hb).profile = none
  census : ∀ hb, (attach.get hb).census = none
  plug : ∀ hb, (attach.get hb).plug = false
  plugRaw : ∀ hb, (attach.get hb).plugRaw = (s.attach.get hb).plugRaw

theorem node_busReset (n : NodeIx) : Bus.reset.node n = none := get_ofFn _ n

theorem emptied_powerOn (s : State) :
    Emptied (.ofFn fun _ => .reset) (.ofFn fun hb => .reset (s.attach.get hb).plugRaw) s := by
  constructor <;> intro hb <;> simp only [PerHead.get_ofFn]
  case nodes => exact node_busReset
  case state => exact .inl rfl
  all_goals rfl

theorem attach_cold_cases (a : Attach) : a.cold = if a.state = .empty then .reset a.plugRaw
    else { Attach.reset a.plugRaw with state := .releasing .empty, delayEnd := some Timing.default.powerDown } := rfl

theorem emptied_cold (s : State) :
    Emptied (.ofFn fun hb => (s.bus.get hb).cold) (.ofFn fun hb => (s.attach.get hb).cold) s := by
  constructor <;> intro hb <;> simp only [PerHead.get_ofFn, attach_cold_cases]
  case nodes => exact node_busReset
  case urgent => rfl
  case transfer => rfl
  case state =>
    split
    · exact .inl rfl
    · exact .inr ⟨.empty, rfl⟩
  all_goals split <;> rfl

section
variable {kind : StartKind} {bus : PerHead Bus} {attach : PerHead Attach} {s : State} (empty : Emptied bus attach s)
include empty

theorem startedCold_finish_bus (old : State) : (finish old (startedCold kind bus attach s)).bus = bus :=
  finish_bus_unserved (s := startedCold kind bus attach s) empty.nodes empty.state

omit empty in
/-- What a start leaves of the group is what its evaluation gives. -/
theorem startedCold_group (old : State) : (finish old (startedCold kind bus attach s)).group = ⟨[], .notReady, .none⟩ := by
  rw [finish_group]
  rfl

omit empty in
theorem startedCold_permits (old : State) : (finish old (startedCold kind bus attach s)).permits = ⟨false, false⟩ := by
  have held : (finish old (startedCold kind bus attach s)).trip.state = .held .start := by rw [finish_trip]; rfl
  rw [finish_permits, State.upCause, State.downCause, held]
  rfl

omit empty in
/-- R172 step 5, R173: the start notices and nothing else. -/
theorem startedCold_notices : (finish (startedCold kind bus attach s) (startedCold kind bus attach s)).notices =
    (startedCold kind bus attach s).notices := by
  rw [finish_notices_unwatched rfl rfl]
  have none : State.permitNotices (grouped (startedCold kind bus attach s)) = [] := by
    have held : (grouped (startedCold kind bus attach s)).trip.state = .held .start := rfl
    have off : (grouped (startedCold kind bus attach s)).permits = ⟨false, false⟩ := rfl
    rw [State.permitNotices, State.upCause, State.downCause, held, off]
    rfl
  rw [none]
  rfl

omit empty in
theorem startedCold_posted : (startedCold kind bus attach s).notices.queue.map Notice.body =
      [.started kind 0, .holdState (.held .start) false false none,
        .attachState .a (attach.get .a).state none ((attach.get .a).descriptor.map Descriptor.serial),
        .attachState .b (attach.get .b).state none ((attach.get .b).descriptor.map Descriptor.serial),
        .groupState .soloA ⟨[], .notReady, .none⟩] ∧
    (startedCold kind bus attach s).notices.overrun = false :=
  postAll_room (s := { powerOnState s with bus := bus, attach := attach }) _ rfl (show 5 ≤ 24 from Nat.le_of_ble_eq_true rfl)

end

end Sys2Proof.Machine
end

section
/-! SUPPORT. The WARM restart, and the statement about the three starts. -/

namespace Sys2Proof.Machine

-- One theorem at a time: proofs that wait for one another hold a thread each.
set_option Elab.async false

/-! ## The restart that is due (R171) -/

theorem answerRestart_range {b : Byte} (h : 1 < b.toNat) (s : State) : answerRestart b s = refuse .range s := by
  have zero : b ≠ 0 := by rintro rfl; exact absurd h (by decide)
  have one : b ≠ 1 := by rintro rfl; exact absurd h (by decide)
  rw [answerRestart, restartKindOf?, if_neg zero, if_neg one]

theorem answerRestart_ok {b : Byte} (h : b.toNat ≤ 1) (s : State) : answerRestart b s = answerOk s := by
  have listed : b = 0 ∨ b = 1 := by bv_omega
  rcases listed with rfl | rfl <;> rfl

/-- R171: the OK to a RESTART that has been sent makes its kind due. -/
theorem restartDue_of_restart {s : State} {r : Reply} {q : Request} {rest : List Request} {b : Byte}
    (line : s.link.tx = .reply) (reply : s.link.reply = some r) (kind : r.kind = 0x04) (ok : r.status = .ok)
    (queue : s.link.queue = q :: rest) (body : q.body = [b]) : s.restartDue = restartKindOf? b := by
  unfold State.restartDue
  rw [line, reply, queue]
  exact (if_pos ⟨kind, ok⟩).trans (by rw [body]; rfl)

theorem exec_replySent_restart {s : State} {kind : StartKind} (due : s.restartDue = some kind) :
    exec .replySent s = .next (finish (start kind s) (start kind s)) := by
  change execReplySent s = _
  rw [execReplySent, due]

/-! ## The WARM restart (R172) -/

theorem node_warm (inService : Bool) (b : Bus) (n : NodeIx) :
    (b.warm inService).node n = (b.node n).map fun r => { r with output := 0 } := by
  rw [← node_updateNodes (fun _ r => r.map fun r => { r with output := 0 }) b n]
  rfl

theorem bus_warmState (s : State) (hb : Headblock) :
    (warmState s).bus.get hb = (s.bus.get hb).warm (s.attachState hb).inService := PerHead.get_ofFn _ hb

theorem node_warmState (s : State) (hb : Headblock) (n : NodeIx) :
    (warmState s).node hb n = (s.node hb n).map fun r => { r with output := 0 } := by
  rw [State.node, bus_warmState, node_warm]
  rfl

theorem pair_warmState (s : State) (p : PairId) : (warmState s).pair p = (s.pair p).warm := by
  unfold State.pair warmState
  rw [PerHead.get_ofFn, get_ofFn]

theorem setting_warmState (s : State) (hb : Headblock) : (warmState s).setting.get hb = (s.setting.get hb).warm :=
  PerHead.get_ofFn _ hb

def warmFields : List Field :=
  [.watches, .receiver, .queue, .reply, .flash, .order, .bypass, .trip, .pairs, .setting, .memberList, .tx, .notices,
    .signals, .lamps, .traffic, .groupState, .permits]

theorem warmState_keeps (s : State) : keeps warmFields s (warmState s) := by
  intro f untouched
  cases f
  case nodes =>
    intro hb n
    rw [node_warmState]
    cases s.node hb n <;> rfl
  all_goals simp_all [Field.same, warmFields, warmState]

/-- R24: no order stands at the composition of a WARM restart, so it changes the member list alone. -/
theorem warmStart_eq (s : State) : warmStart s = postStart .warm (.ofFn fun hb => (s.setting.get hb).op) (evalGroup
    { warmState s with group := { (warmState s).group with members := (warmState s).composed } }) := by
  rw [warmStart, compose_of_not_runs (s := warmState s) rfl]

theorem warmStart_keeps (s : State) : keeps warmFields s (warmStart s) :=
  (warmState_keeps s).trans <| ((compose_keeps _).mono (by decide)).trans <|
    ((evalGroup_keeps _).mono (by decide)).trans ((postAll_keeps _ _).mono (by decide))

theorem finish_warmStart_keeps (s : State) : keeps warmFields s (finish (warmStart s) (warmStart s)) :=
  (warmStart_keeps s).trans ((finish_keeps _ _).mono (by decide))

theorem pair_warmStart (s : State) (p : PairId) : (warmStart s).pair p = (s.pair p).warm := by
  rw [warmStart_eq, ← pair_warmState]
  rfl

theorem setting_warmStart (s : State) (hb : Headblock) : (warmStart s).setting.get hb = (s.setting.get hb).warm := by
  rw [warmStart_eq, ← setting_warmState]
  rfl

theorem transfer_warmStart (s : State) (hb : Headblock) : ((warmStart s).bus.get hb).transfer = none := by
  rw [warmStart_eq]
  change ((warmState s).bus.get hb).transfer = none
  rw [bus_warmState]
  rfl

/-- R24: the member list after a WARM restart is composed of what stands. -/
theorem warmStart_members (s : State) : (warmStart s).group.members = (warmStart s).composed := by
  rw [warmStart_eq]
  exact composed_congr rfl rfl rfl

theorem warmStart_group (s : State) : (grouped (warmStart s)).group = (warmStart s).group := by
  rw [warmStart_eq]
  rfl

theorem abortedSetEnds_length (ops : PerHead (Option SetOp)) : (abortedSetEnds ops).length ≤ 2 := by
  rw [abortedSetEnds, headblocks, List.flatMap_cons, List.flatMap_cons, List.flatMap_nil, List.append_nil,
    List.length_append]
  cases ops.get .a <;> cases ops.get .b <;> exact Nat.le_of_ble_eq_true rfl

/-- R20: permits that were off give a notice for each that comes on. -/
theorem permitNotices_of_off {s : State} (off : s.permits = ⟨false, false⟩) : s.permitNotices =
    (if s.upCause.isNone then [.permit .up true none] else []) ++
      (if s.downCause.isNone then [.permit .down true none] else []) := by
  rw [State.permitNotices, off]
  cases s.upCause <;> cases s.downCause <;> rfl

/-- R18 to R20: an action's end leaves the permits that its evaluated group gives. -/
theorem finish_permits_grouped (old s : State) :
    (finish old s).permits = ⟨(grouped s).upCause.isNone, (grouped s).downCause.isNone⟩ := by
  have k := afterGroup_keeps old s
  obtain ⟨up, down⟩ := causes_congr k.trip_eq k.bypass_eq k.order_eq k.setting_eq k.state_eq
  rw [finish_permits, up, down]

/-- R172 step 5: the notices of a WARM restart from `s`, whose composed group is `group`. -/
def warmNotices (s : State) (group : Group) : List NoticeBody :=
  [.started .warm (timeWord s.time),
    .holdState s.trip.state s.trip.pending s.trip.chainClosed none,
    .attachState .a (s.attach.get .a).state none ((s.attach.get .a).descriptor.map Descriptor.serial),
    .attachState .b (s.attach.get .b).state none ((s.attach.get .b).descriptor.map Descriptor.serial)] ++
    abortedSetEnds (.ofFn fun hb => (s.setting.get hb).op) ++ [.groupState s.mode group]

theorem warmNotices_length (s : State) (group : Group) : (warmNotices s group).length ≤ 7 := by
  have ends := abortedSetEnds_length (.ofFn fun hb => (s.setting.get hb).op)
  simp only [warmNotices, List.length_append, List.length_cons, List.length_nil]
  omega

/-- The notices told from the state that the WARM restart leaves. -/
theorem warmNotices_after {s t : State} (trip : t.trip = { s.trip with hold := none }) (attach : t.attach = s.attach)
    (mode : t.mode = s.mode) : warmNotices s t.group = [.started .warm (timeWord s.time),
        .holdState t.trip.state t.trip.pending t.trip.chainClosed none,
        .attachState .a (t.attach.get .a).state none ((t.attach.get .a).descriptor.map Descriptor.serial),
        .attachState .b (t.attach.get .b).state none ((t.attach.get .b).descriptor.map Descriptor.serial)] ++
        abortedSetEnds (.ofFn fun hb => (s.setting.get hb).op) ++ [.groupState t.mode t.group] := by
  rw [warmNotices, trip, attach, mode]

/-- What is posted after the start notices of a WARM restart stands behind them. -/
theorem warmStart_notices (s : State) (more : List NoticeBody) : (postAll more (warmStart s)).notices =
    (postAll (warmNotices s (warmStart s).group ++ more) { s with notices := ⟨[], false⟩ }).notices := by
  rw [warmStart_eq, postStart, ← postAll_append]
  exact notices_postAll_congr rfl rfl _

theorem finish_warmStart_group (s : State) : (finish (warmStart s) (warmStart s)).group = (warmStart s).group := by
  rw [finish_group, warmStart_group]

/-- R20, R172 step 5: the start notices of a WARM restart, then the permits that come on. -/
theorem finish_warmStart_notices {s t : State} (ht : t = finish (warmStart s) (warmStart s)) :
    t.notices.queue.map Notice.body = warmNotices s t.group ++
        ((if t.permits.up then [.permit .up true none] else []) ++
          (if t.permits.down then [.permit .down true none] else [])) ∧
      t.notices.overrun = false := by
  have off : (grouped (warmStart s)).permits = ⟨false, false⟩ := by
    rw [(grouped_keeps _).permits_eq, warmStart_eq]
    rfl
  have watches : (warmStart s).watches = [] := by rw [warmStart_eq]; rfl
  have notices : t.notices = _ := ht ▸
    (finish_notices_unwatched watches (warmStart_group s)).trans (warmStart_notices s _)
  have group : t.group = _ := ht ▸ finish_warmStart_group s
  have permits : t.permits = _ := ht ▸ finish_permits_grouped (warmStart s) (warmStart s)
  rw [notices, group, permits, permitNotices_of_off off]
  refine postAll_room (s := { s with notices := ⟨[], false⟩ }) _ rfl ?_
  have length := warmNotices_length s (warmStart s).group
  have room : Config.noticeCapacity = 24 := rfl
  simp only [List.length_append]
  split <;> split <;> simp only [List.length_cons, List.length_nil] <;> omega

/-! ## The three starts -/

/-- Settles O48, from the state that a power-on and a COLD restart share (`startedCold`) and from what a WARM restart
keeps (`finish_warmStart_keeps`) and posts (`finish_warmStart_notices`). -/
theorem starts : Obligations.Starts := by
  intro s cold bodies
  have values : ∀ kind bus attach, Emptied bus attach s →
      cold (finish (startedCold kind bus attach s) (startedCold kind bus attach s)) := by
    intro kind bus attach empty
    have kept := finish_keeps (startedCold kind bus attach s) (startedCold kind bus attach s)
    have busKept := startedCold_finish_bus (kind := kind) empty (startedCold kind bus attach s)
    have posted := startedCold_posted (kind := kind) (bus := bus) (attach := attach) (s := s)
    refine ⟨kept.time_eq, kept.timing_eq, kept.watches_eq, ?_, kept.rx_eq, kept.queue_eq, kept.reply_eq, kept.mode_eq,
      startedCold_group _, startedCold_permits _, fun m => ?_, kept.order_eq, kept.authority_eq, kept.bypass_eq,
      kept.awaitingOff_eq, fun p => ?_, fun hb => ?_, kept.trip_eq, fun hb => ?_, fun i => ?_, kept.pending_eq⟩
    · rw [startedCold_notices, posted.2]
    · rw [kept.member_eq]
      exact reset_member m
    · rw [kept.pair_eq]
      exact reset_pair p
    · rw [kept.setting_eq]
      exact PerHead.get_ofFn _ hb
    · rw [kept.attach_eq, busKept]
      exact ⟨empty.descriptor hb, empty.profile hb, empty.census hb, empty.plug hb, empty.plugRaw hb,
        fun n => (congrArg (fun b => (b.get hb).node n) busKept).trans (empty.nodes hb n), empty.urgent hb,
        empty.transfer hb⟩
    · rw [State.cabIn, kept.cab_eq]
      exact get_ofFn _ i.ix
  refine ⟨fun tag kind free htag =>
      ⟨fun range => answers_of_free rfl free htag (answerRestart_range range _),
        fun ok => answers_of_free rfl free htag (answerRestart_ok ok _)⟩,
    ⟨_, rfl, values .powerOn _ _ (emptied_powerOn s), fun hb => ?_, ?_⟩, ?_⟩
  · rw [powerOn_eq, finish_attach, startedCold_finish_bus (emptied_powerOn s)]
    exact ⟨congrArg Attach.state (PerHead.get_ofFn _ hb), congrArg Bus.flight (PerHead.get_ofFn _ hb)⟩
  · change (finish (powerOn s) (powerOn s)).notices.queue.map Notice.body = _
    rw [powerOn_eq, startedCold_notices, startedCold_posted.1]
    rfl
  intro r q rest b line reply kind ok queue body
  have due := restartDue_of_restart line reply kind ok queue body
  constructor
  · rintro rfl
    refine ⟨_, exec_replySent_restart due, values .cold _ _ (emptied_cold s), fun hb => ?_, fun hb => ?_, ?_⟩
    · change ((finish (coldStart s) (coldStart s)).attach.get hb).state = _
      rw [coldStart_eq, finish_attach]
      change (((PerHead.ofFn fun hb => (s.attach.get hb).cold) : PerHead Attach).get hb).state = _
      rw [PerHead.get_ofFn, attach_cold_cases]
      split <;> rfl
    · change ((finish (coldStart s) (coldStart s)).bus.get hb).flight = _
      rw [coldStart_eq, startedCold_finish_bus (emptied_cold s), PerHead.get_ofFn]
      rfl
    · change (finish (coldStart s) (coldStart s)).notices.queue.map Notice.body = _
      rw [coldStart_eq, startedCold_notices, startedCold_posted.1]
      have attach : (finish (start .cold s) (start .cold s)).attach = _ := finish_attach _ _
      have descriptor := (emptied_cold s).descriptor
      rw [descriptor, descriptor, attach]
      rfl
  · rintro rfl
    have k := finish_warmStart_keeps s
    obtain ⟨posted, overrun⟩ := finish_warmStart_notices (s := s) rfl
    have trip : (finish (warmStart s) (warmStart s)).trip = { s.trip with hold := none } :=
      (finish_trip _ _).trans (congrArg State.trip (warmStart_eq s))
    have composed := composed_congr (finish_mode (warmStart s) (warmStart s)) (finish_attach _ _) (finish_setting _ _)
    refine ⟨_, exec_replySent_restart due, k.time_eq, 
      (finish_watches _ _).trans (congrArg State.watches (warmStart_eq s)), overrun,
      (finish_rx _ _).trans (congrArg (·.link.rx) (warmStart_eq s)),
      (finish_queue _ _).trans (congrArg (·.link.queue) (warmStart_eq s)),
      (finish_reply _ _).trans (congrArg (·.link.reply) (warmStart_eq s)),
      (finish_order _ _).trans (congrArg State.order (warmStart_eq s)),
      (finish_bypass _ _).trans (congrArg State.bypass (warmStart_eq s)), trip, fun p => ?_, fun hb => ?_,
      fun hb => finish_transfer_none (transfer_warmStart s hb), ?_, ⟨abortedSetEnds (.ofFn fun hb => (s.setting.get hb).op), ?_, rfl⟩, k⟩
    · exact (finish_pair _ _ p).trans (pair_warmStart s p)
    · refine (congrArg (·.get hb) (finish_setting _ _)).trans ((setting_warmStart s hb).trans ?_)
      rw [SettingUnit.warm]
      cases (s.setting.get hb).op <;> rfl
    · exact (finish_memberList _ _).trans ((warmStart_members s).trans composed.symm)
    · exact posted.trans ((List.append_assoc _ _ _).symm.trans
        (congrArg (· ++ _ ++ _) (warmNotices_after trip k.attach_eq k.mode_eq)))

end Sys2Proof.Machine
end

section
/-! SUPPORT. The trip edge in CLEAR, and the statement about it. -/

namespace Sys2Proof.Machine

-- One theorem at a time: proofs that wait for one another hold a thread each.
set_option Elab.async false

/-! ## Notices through a chain of steps -/

/-- `t` is reached from `s` with these notices posted and no time passed. -/
structure Posts (bodies : List NoticeBody) (s t : State) : Prop where
  notices : t.notices = (postAll bodies s).notices
  time : t.time = s.time

namespace Posts

variable {bodies more : List NoticeBody} {s t u : State}

theorem silent (notices : t.notices = s.notices := by rfl) (time : t.time = s.time := by rfl) : Posts [] s t :=
  ⟨notices, time⟩

theorem of_postAll (t : State) (bodies : List NoticeBody) (notices : t.notices = s.notices := by rfl)
    (time : t.time = s.time := by rfl) : Posts bodies s (postAll bodies t) := ⟨notices_postAll_congr notices time bodies, time⟩

theorem of_post (t : State) (body : NoticeBody) (notices : t.notices = s.notices := by rfl)
    (time : t.time = s.time := by rfl) : Posts [body] s (post body t) := of_postAll t [body] notices time

theorem trans (h : Posts bodies s t) (k : Posts more t u) : Posts (bodies ++ more) s u where
  notices := by
    rw [k.notices, postAll_append]
    exact notices_postAll_congr h.notices h.time more
  time := k.time.trans h.time

end Posts

theorem compose_posts_of_not_runs {s : State} (h : s.order.runs = false) : Posts [] s (compose s) := by
  rw [compose_of_not_runs h]
  exact .silent

/-- R104: with no order running an abort of a set operation posts SET_END alone. -/
theorem abortSetOp_posts_of_not_runs {s : State} (h : s.order.runs = false) (hb : Headblock) (reason : SetReason) :
    Posts (match (s.setting.get hb).op with
      | none => []
      | some op => [.setEnd hb reason op.target op.step.name none]) s (abortSetOp hb reason s) := by
  cases op : (s.setting.get hb).op with
  | none => rw [abortSetOp_none op]; exact .silent
  | some op' =>
    rw [abortSetOp_some op]
    exact (Posts.of_post (updateSetting hb (fun _ => ⟨none, 0, none⟩) (letGo (bodyPairOf hb) s)) _).trans
      (compose_posts_of_not_runs (by exact h))

theorem postGroup_posts (old s : State) :
    Posts (if s.mode = old.mode ∧ s.group = old.group then [] else [.groupState s.mode s.group]) s (postGroup old s) :=
  .of_postAll _ _

/-! ## A trip edge in CLEAR (R79 to R81) -/

/-- R81: what a trip edge posts of the order. -/
def OrderRec.tripNotices : OrderRec → List NoticeBody
  | .proposed head _ => [.orderStage .idle head, .orderEnd head .ended .trip []]
  | .active _ head _ _ => [.orderStage .suspended head]
  | .idle | .suspended _ | .faultHeld _ _ _ => []

theorem tripOrder_posts (s : State) : Posts s.order.tripNotices s (tripOrder s) := by
  unfold tripOrder
  split
  case h_1 h => rw [h]; exact .of_postAll { s with order := .idle } _
  case h_2 h => rw [h]; exact .of_post { letGo s.orderPair s with order := .suspended _ } _
  all_goals next h => rw [h]; exact .silent

theorem tripHolding_posts (s : State) :
    Posts ([.holdState (.holding .trip) false s.trip.chainClosed s.holdAtTrip] ++ s.order.tripNotices) s (tripHolding s) :=
  (Posts.of_post { claimForceOff s with trip :=
    { s.trip with state := .holding .trip, pending := false, hold := s.holdAtTrip } } _).trans (tripOrder_posts (enterHolding .trip s.holdAtTrip (claimForceOff s)))

/-- R81: SET_END of the set operations that a trip edge aborts. -/
def State.tripSetEnds (s : State) : List NoticeBody :=
  [Headblock.a, .b].flatMap fun hb => match (s.setting.get hb).op with
    | none => []
    | some op => [.setEnd hb .trip op.target op.step.name none]

theorem tripOps_posts (s : State) :
    Posts ([.holdState (.holding .trip) false s.trip.chainClosed s.holdAtTrip] ++ s.order.tripNotices ++ s.tripSetEnds)
      s (tripOps s) := by
  have second : (abortSetOp .a .trip (tripHolding s)).order.runs = false := by
    rw [order_abortSetOp_of_not_runs (tripHolding_not_runs s), tripHolding_not_runs]
  have ends := (abortSetOp_posts_of_not_runs (tripHolding_not_runs s) .a .trip).trans
    (abortSetOp_posts_of_not_runs second .b .trip)
  have other : ((abortSetOp .a .trip (tripHolding s)).setting.get .b) = s.setting.get .b := by
    rw [setting_abortSetOp, if_neg (fun h => absurd h.1 (by decide)), (tripHolding_keeps s).setting_eq]
  rw [other, (tripHolding_keeps s).setting_eq] at ends
  exact (tripHolding_posts s).trans (by
    rw [State.tripSetEnds, List.flatMap_cons, List.flatMap_cons, List.flatMap_nil, List.append_nil]; exact ends)

/-- R81: BYPASS_STATE, when bypass stands. -/
def State.tripBypassEnd (s : State) : List NoticeBody :=
  match s.bypass with
  | some hb => [.bypassState false hb (some .trip)]
  | none => []

theorem leaveBypass_tripOps_posts (s : State) :
    Posts s.tripBypassEnd (tripOps s) (leaveBypass .trip (tripOps s)) := by
  rw [leaveBypass_tripOps, State.tripBypassEnd]
  cases s.bypass with
  | none => exact .silent
  | some hb => exact .of_post { tripOps s with bypass := none } _

/-- What a trip edge in CLEAR has done before GROUP_STATE and the report. -/
def tripEvaluated (s : State) : State := evalGroup (leaveBypass .trip (tripOps s))

theorem takeTrip_eq_report (s : State) : takeTrip s = reportIfEmpty (postGroup s (tripEvaluated s)) := rfl

theorem takeTrip_group (s : State) : (takeTrip s).group = (tripEvaluated s).group := by
  rw [takeTrip_eq_report, reportIfEmpty, reportConfirmedOff]
  split
  · split <;> rfl
  · rfl

theorem tripEvaluated_keeps (s : State) :
    keeps [.bypass, .groupState, .order, .pairs, .notices] (tripOps s) (tripEvaluated s) :=
  ((leaveBypass_keeps _ _).mono (by decide)).trans ((evalGroup_keeps _).mono (by decide))

theorem reportConfirmedOff_of_holding {s : State} {cause : HoldCause} (holding : s.trip.state = .holding cause) :
    reportConfirmedOff s = post (.holdState (.held cause) s.trip.pending s.trip.chainClosed s.trip.hold)
      { s with trip := { s.trip with state := .held cause } } := by
  simp only [reportConfirmedOff, holding]
  rfl

/-- R83: the report that every coil is off, made at once when no pair awaits. -/
theorem reportIfEmpty_posts {s : State} {cause : HoldCause} (holding : s.trip.state = .holding cause) :
    Posts (if s.awaitingOff = [] then [.holdState (.held cause) s.trip.pending s.trip.chainClosed s.trip.hold] else [])
      s (reportIfEmpty s) := by
  unfold reportIfEmpty
  by_cases empty : s.awaitingOff = []
  · rw [if_pos empty, if_pos (List.isEmpty_iff.2 empty), reportConfirmedOff_of_holding holding]
    exact .of_post _ _
  · rw [if_neg empty, if_neg (by rwa [List.isEmpty_iff])]
    exact .silent

theorem takeTrip_posts (s : State) : Posts
    ([.holdState (.holding .trip) false s.trip.chainClosed s.holdAtTrip] ++ s.order.tripNotices ++ s.tripSetEnds ++
      s.tripBypassEnd ++ (if (takeTrip s).group = s.group then [] else [.groupState (takeTrip s).mode (takeTrip s).group]) ++
      if s.awaitingOffOf = [] then [.holdState (.held .trip) false s.trip.chainClosed s.holdAtTrip] else [])
    s (takeTrip s) := by
  have k := tripEvaluated_keeps s
  have mode : (tripEvaluated s).mode = s.mode := by
    rw [k.mode_eq, tripOps, (abortSetOp_keeps _ _ _).mode_eq, (abortSetOp_keeps _ _ _).mode_eq, (tripHolding_keeps s).mode_eq]
  have trip : (postGroup s (tripEvaluated s)).trip = _ := (k.trip_eq.trans (tripOps_trip s))
  have awaiting : (postGroup s (tripEvaluated s)).awaitingOff = _ := (k.awaitingOff_eq.trans (tripOps_awaitingOff s))
  have grouped := postGroup_posts s (tripEvaluated s)
  have reported := reportIfEmpty_posts (s := postGroup s (tripEvaluated s)) (cause := .trip) (by rw [trip])
  rw [trip, awaiting] at reported
  simp only [mode, true_and] at grouped
  rw [takeTrip_group, (takeTrip_keeps s).mode_eq]
  have left := (tripOps_posts s).trans (leaveBypass_tripOps_posts s)
  have evaluated : Posts _ s (tripEvaluated s) := ⟨left.notices, left.time⟩
  exact (evaluated.trans grouped).trans reported

theorem grouped_group (s : State) : (grouped s).group =
    ⟨s.group.members, s.groupStateOf s.group.members, s.summaryOf s.group.members⟩ := rfl

/-- R15: the group that a trip edge leaves is the one that the end of its action finds. -/
theorem finish_takeTrip_group (s : State) : (finish (takeTrip s) (takeTrip s)).group = (takeTrip s).group := by
  have k := (reportIfEmpty_keeps (postGroup s (tripEvaluated s)))
  have left : (takeTrip s).members = (leaveBypass .trip (tripOps s)).members ∧
      (takeTrip s).pairs = (leaveBypass .trip (tripOps s)).pairs := ⟨k.members_eq, k.pairs_eq⟩
  obtain ⟨state, summary⟩ := groupStateOf_summaryOf_congr left.1 left.2 (takeTrip s).group.members
  rw [finish_group, grouped_group, state, summary, takeTrip_group]
  rfl

theorem takeTrip_choices (s : State) : (takeTrip s).choices = s.choices := by
  have report := reportIfEmpty_keeps (postGroup s (tripEvaluated s))
  have ops : (tripOps s).choices = s.choices := by
    rw [tripOps, (abortSetOp_keeps _ _ _).choices_eq, (abortSetOp_keeps _ _ _).choices_eq, (tripHolding_keeps s).choices_eq]
  have left : (leaveBypass .trip (tripOps s)).choices = (tripOps s).choices := by
    rw [leaveBypass_tripOps]
    cases s.bypass <;> rfl
  rw [takeTrip_eq_report, report.choices_eq]
  change (leaveBypass .trip (tripOps s)).choices = s.choices
  rw [left, ops]

theorem takeTrip_bypass (s : State) : (takeTrip s).bypass = none := by
  have report := reportIfEmpty_keeps (postGroup s (tripEvaluated s))
  have ops : (tripOps s).bypass = s.bypass := by
    rw [tripOps, (abortSetOp_keeps _ _ _).bypass_eq, (abortSetOp_keeps _ _ _).bypass_eq, (tripHolding_keeps s).bypass_eq]
  rw [takeTrip_eq_report, report.bypass_eq]
  change (leaveBypass .trip (tripOps s)).bypass = none
  rw [leaveBypass_tripOps]
  cases bypass : s.bypass with
  | none => exact ops.trans bypass
  | some hb => rfl

/-- R101: an abort composes, so the list is as it should be after one. -/
theorem members_abortSetOp (s : State) (hb : Headblock) (reason : SetReason) : (abortSetOp hb reason s).group.members =
    if (s.setting.get hb).op = none then s.group.members else (abortSetOp hb reason s).composed := by
  cases op : (s.setting.get hb).op with
  | none => rw [abortSetOp_none op, if_pos rfl]
  | some op' => rw [abortSetOp_some op, if_neg (by simp), compose_members, compose_composed]

theorem takeTrip_members (s : State) : (takeTrip s).group.members =
    if ∀ hb ∈ headblocks, (s.setting.get hb).op = none then s.group.members else (compose (takeTrip s)).group.members := by
  have after := takeTrip_after s
  have composed : (takeTrip s).composed = (tripOps s).composed := composed_congr after.mode_eq after.attach_eq after.setting_eq
  have second : ((abortSetOp .a .trip (tripHolding s)).setting.get .b) = s.setting.get .b := by
    rw [setting_abortSetOp, if_neg (fun h => absurd h.1 (by decide)), (tripHolding_keeps s).setting_eq]
  rw [compose_members, after.memberList_eq, composed, tripOps, members_abortSetOp, second, members_abortSetOp,
    (tripHolding_keeps s).setting_eq, (tripHolding_keeps s).memberList_eq]
  cases b : (s.setting.get .b).op with
  | none =>
    rw [if_pos rfl, abortSetOp_none (s := abortSetOp .a .trip (tripHolding s)) (by rw [second, b])]
    cases a : (s.setting.get .a).op <;> simp [headblocks, a, b]
  | some op => simp [headblocks, b]

/-! ## The pairs that await confirmation (R73) -/

theorem mem_allPairs (p : PairId) : p ∈ allPairs := by
  have listed : ∀ hb i, (⟨hb, i⟩ : PairId) ∈ allPairs := by
    intro hb
    cases hb <;> decide
  exact listed p.hb p.i

theorem leftOut_iff {s : State} {p : PairId} : s.leftOut p = false ↔
    (s.attach.get p.hb).state.supplyOn = true ∧ ∃ r, s.node p.hb p.node = some r ∧
      ¬(r.link = .lost ∧ r.offTime p ≤ s.time ∧ s.stillSending p = false) ∧
      ¬((∃ image, r.reference = some image ∧ imageEcho p image = .bothOff) ∧
        (∃ echo, r.echo = some echo ∧ imageEcho p echo = .bothOff) ∧ ¬s.flightCarries p = true) := by
  unfold State.leftOut State.lostAndOff State.reference State.heldEcho
  cases s.node p.hb p.node with
  | none => simp
  | some r => simp [State.attachState, and_assoc]

theorem mem_awaitingOffOf {s : State} {p : PairId} : p ∈ s.awaitingOffOf ↔
    ((s.pair p).command ≠ .bothOff ∨
      ∃ r echo, s.node p.hb p.node = some r ∧ r.echo = some echo ∧ (imageEcho p echo).anyOn = true) ∧
    s.leftOut p = false := by
  rw [State.awaitingOffOf, List.mem_filter, and_iff_right (mem_allPairs p), Bool.and_eq_true, Bool.or_eq_true, bne_iff_ne,
    Bool.not_eq_true', State.heldEcho]
  cases s.node p.hb p.node with
  | none => simp
  | some r => cases echo : r.echo <;> simp [echo]

/-! ## The statement -/

/-- Settles O50: the trip edge by the rules of its steps (`takeTrip_posts` and the others), the awaited pairs by the
case split of R73 (`mem_awaitingOffOf`, `leftOut_iff`). -/
theorem tripEdgeInClear : Obligations.TripEdgeInClear := by
  refine ⟨fun s due timer raw closed clear => ?_, fun s p => ?_⟩
  · let u : State := { s with time := max s.time due, trip := { s.trip with chainClosed := false, chainTimer := none } }
    have taken : tripEdge s = takeTrip u := (tripEdge_taken timer raw closed).trans (if_pos clear)
    have hold : (match s.order with
        | .active _ head members _ => some (⟨head.kind, head.origin, members.map OrderMember.member, head.turningBegun,
            s.bypass.isSome⟩ : HoldRec)
        | _ => s.trip.hold) = u.holdAtTrip := by
      unfold State.holdAtTrip
      change _ = match s.order with | _ => _
      cases s.order <;> rfl
    have k := takeTrip_keeps u
    refine ⟨takeTrip u, congrArg (fun t => Host.Outcome.next (finish t t)) taken, ?_⟩
    intro held last ends
    have heldIs : held = u.holdAtTrip := hold
    have awaiting := takeTrip_awaitingOff u
    have trip := takeTrip_trip u
    refine ⟨k.time_eq, awaiting, ?_, fun p => ?_, ?_, takeTrip_setting u, takeTrip_bypass u, takeTrip_choices u,
      takeTrip_members u, (finish_takeTrip_group u).symm, ?_, ?_⟩
    · rw [trip, heldIs, ← awaiting]
      change (⟨_, _, _, s.trip.chainRawClosed, _, _⟩ : TripUnit) = _
      rw [raw]
    · rw [takeTrip_pair]
      simp only [orderPair_iff]
      rfl
    · rw [takeTrip_order]
      change s.order.tripped = _
      cases s.order <;> rfl
    · rw [(takeTrip_posts u).notices, heldIs, awaiting]
      refine (notices_postAll_congr (t := u) (s := { s with time := max s.time due }) rfl rfl _).trans
        (congrArg (fun bodies => (postAll bodies _).notices) ?_)
      have order : u.order.tripNotices = match s.order with
          | .proposed head _ => [.orderStage .idle head, .orderEnd head .ended .trip []]
          | .active _ head _ _ => [.orderStage .suspended head]
          | _ => [] := by
        change s.order.tripNotices = _
        cases s.order <;> rfl
      have bypass : u.tripBypassEnd = match s.bypass with
          | some hb => [.bypassState false hb (some .trip)]
          | none => [] := rfl
      rw [order, bypass]
      rfl
    · have clock : keeps [.time, .trip] s u := by
        intro f changed
        cases f <;> simp_all [Field.same, State.node, u]
      exact (clock.mono (by decide)).trans (k.mono (by decide))
  · rw [mem_awaitingOffOf, leftOut_iff, flightCarries_iff]

end Sys2Proof.Machine
end

section
/-! SUPPORT. How SET_SPREADER is answered, and the statement about it. -/

namespace Sys2Proof.Machine

-- One theorem at a time: proofs that wait for one another hold a thread each.
set_option Elab.async false

/-! ## The target that SET_SPREADER names (Table 5-4, check 1) -/

theorem lengthOf?_code (length : Length) : lengthOf? length.code = some length := by
  cases length <;> rfl

theorem lengthOf?_eq_none {b : Byte} (h : b.toNat ∉ [20, 40, 45]) : lengthOf? b = none := by
  have l20 : b ≠ 20 := by rintro rfl; exact h (by decide)
  have l40 : b ≠ 40 := by rintro rfl; exact h (by decide)
  have l45 : b ≠ 45 := by rintro rfl; exact h (by decide)
  rw [lengthOf?, if_neg l20, if_neg l40, if_neg l45]

theorem liftModeOf?_code (mode : LiftMode) : liftModeOf? mode.code = some mode := by
  cases mode <;> rfl

theorem liftModeOf?_eq_none {b : Byte} (h : 1 < b.toNat) : liftModeOf? b = none := by
  have single : b ≠ 0 := by rintro rfl; exact absurd h (by decide)
  have twin : b ≠ 1 := by rintro rfl; exact absurd h (by decide)
  rw [liftModeOf?, if_neg single, if_neg twin]

theorem targetOf?_code (hb : Headblock) (target : Setting) :
    targetOf? (headblockCode hb) target.length.code target.mode.code = some (hb, target) := by
  rw [targetOf?, headblockOf?_code, lengthOf?_code, liftModeOf?_code]
  rfl

theorem targetOf?_eq_none {b l m : Byte} (h : 1 < b.toNat ∨ l.toNat ∉ [20, 40, 45] ∨ 1 < m.toNat) :
    targetOf? b l m = none := by
  rw [targetOf?]
  obtain range | range | range := h
  · rw [headblockOf?_eq_none range]; rfl
  · rw [lengthOf?_eq_none range]; cases headblockOf? b <;> rfl
  · rw [liftModeOf?_eq_none range]; cases headblockOf? b <;> cases lengthOf? l <;> rfl

/-! ## The refusal of SET_SPREADER (Table 5-4) -/

theorem settingValid_eq (s : State) (hb : Headblock) (target : Setting) : s.settingValid hb target =
    (s.attach.get hb).descriptor.any fun d => d.supports target.length &&
      decide (target.mode = .single ∨ target.length = .l40 ∧ d.twin = true) := by
  unfold State.settingValid
  cases (s.attach.get hb).descriptor with
  | none => rfl
  | some d => rw [Bool.eq_iff_iff]; simp

theorem servedMembers_eq (s : State) (hb : Headblock) : s.servedMembers hb =
    (membersOf hb).filter fun m => m.k.val < 4 || (s.attach.get hb).descriptor.any Descriptor.twin :=
  List.filter_congr fun m listed => by
    rw [Bool.eq_iff_iff, served_iff listed, Bool.or_eq_true, decide_eq_true_eq]

theorem setRefusal_eq_firstFailing {s : State} {hb : Headblock} {target : Setting} {involved valid : Bool}
    {served : List Member} (involves : s.involved hb = involved) (fits : s.settingValid hb target = valid)
    (serves : s.servedMembers hb = served) : s.setRefusal hb target = firstFailing
      [(decide ((s.attach.get hb).state = .armed), Status.notArmed), (decide (s.trip.state = .clear), .hold),
        (!involved, .busy), (valid, .modeInvalid),
        (decide (∀ m ∈ served, (s.member m).landed ≠ .on), .landed),
        (decide (∀ m ∈ served, (s.member m).position = .unlocked), .locked)] := by
  subst involves fits serves
  have landed : (!(s.servedMembers hb).any fun m => (s.member m).landed == .on) =
      decide (∀ m ∈ s.servedMembers hb, (s.member m).landed ≠ .on) := by
    rw [Bool.eq_iff_iff]
    simp
  have unlocked : s.allUnlocked hb = decide (∀ m ∈ s.servedMembers hb, (s.member m).position = .unlocked) := by
    rw [Bool.eq_iff_iff, State.allUnlocked]
    simp
  simp only [← landed, ← unlocked, State.setRefusal, State.attachState, bne_iff_ne, ne_eq, 
    firstFailing_cons_bool, firstFailing_nil, Bool.not_not, Bool.not_eq_true', decide_eq_false_iff_not, ite_not]

/-! ## The input image of the body node (R96) -/

theorem bodyInput_none {s : State} {hb : Headblock}
    (h : ∀ r, s.node hb bodyNode = some r → r.link = .lost ∨ r.input = none) : s.bodyInput hb = none := by
  rw [State.bodyInput, State.onlineInput]
  cases node : s.node hb bodyNode with
  | none => rfl
  | some r =>
    obtain lost | noInput := h r node
    · exact if_neg (by rw [lost]; decide)
    · exact ite_eq_right_iff.2 fun _ => noInput

theorem bodyInput_some {s : State} {hb : Headblock} {r : NodeRec} {input : Byte} (node : s.node hb bodyNode = some r)
    (online : r.link = .online) (held : r.input = some input) : s.bodyInput hb = some input := by
  rw [State.bodyInput, State.onlineInput, node]
  exact (if_pos online).trans held

/-! ## The first needed step (R96, R97, R99) -/

theorem nextStep?_first (twin : Bool) (target : Setting) (input : Byte) : nextStep? twin target input none =
    if needGearUp twin target input then some .gearUp
    else if needTelescoping target input then some .telescoping
    else if needGearDown twin target input then some .gearDown
    else none := rfl

/-- R99: a length is shown when its sensor alone is on. -/
theorem onePosition?_eq_some {input : Byte} {now : Length} :
    onePosition? input = some now ↔ posSensor input now = true ∧ ∀ l, l ≠ now → posSensor input l = false := by
  have lengths : ∀ P : Length → Prop, (∀ l, P l) ↔ P .l20 ∧ P .l40 ∧ P .l45 := fun P =>
    ⟨fun h => ⟨h _, h _, h _⟩, fun ⟨a, b, c⟩ l => by cases l <;> assumption⟩
  unfold onePosition?
  rw [lengths]
  cases l20 : posSensor input .l20 <;> cases l40 : posSensor input .l40 <;> cases l45 : posSensor input .l45 <;>
    cases now <;> simp [l20, l40, l45]

theorem onePosition?_eq_none {input : Byte}
    (h : ∀ now, ¬(posSensor input now = true ∧ ∀ l, l ≠ now → posSensor input l = false)) : onePosition? input = none := by
  rw [Option.eq_none_iff_forall_ne_some]
  exact fun now shown => h now (onePosition?_eq_some.1 shown)

theorem direction?_extend {target now : Length} {input : Byte} (shown : onePosition? input = some now)
    (shorter : now.feet < target.feet) : direction? target input = some .extend := by
  rw [direction?, shown]
  exact if_pos shorter

theorem direction?_retract {target now : Length} {input : Byte} (shown : onePosition? input = some now)
    (longer : target.feet < now.feet) : direction? target input = some .retract := by
  rw [direction?, shown]
  exact if_neg (by omega)

theorem direction?_none {target : Length} {input : Byte} (h : onePosition? input = none) : direction? target input = none := by
  rw [direction?, h]

theorem stepOf?_telescoping {target : Length} {input : Byte} {direction : Direction}
    (decided : direction? target input = some direction) :
    stepOf? .telescoping target input = some (.telescoping direction) := by
  rw [stepOf?, decided]
  rfl

theorem stepOf?_undecided {target : Length} {input : Byte} (undecided : direction? target input = none) :
    stepOf? .telescoping target input = none := by
  rw [stepOf?, undecided]
  rfl

/-! ## Setting records and pairs let go -/

theorem updateSetting_updateSetting (hb : Headblock) (f g : SettingUnit → SettingUnit) (s : State) :
    updateSetting hb f (updateSetting hb g s) = updateSetting hb (fun u => f (g u)) s := by
  unfold updateSetting
  cases hb <;> rfl

/-- Letting go of pairs that are off and unmarked changes nothing. -/
theorem letGo_off {named : PairId → Bool} {s : State}
    (off : ∀ p, named p = true → (s.pair p).command = .bothOff ∧ (s.pair p).offMark = false) : letGo named s = s := by
  have pairs : (letGo named s).pairs = s.pairs := PerHead.ext_get fun hb => ext_get fun i => by
    have same : (letGo named s).pair ⟨hb, i⟩ = s.pair ⟨hb, i⟩ := by
      rw [pair_letGo]
      split
      · next isNamed =>
        obtain ⟨command, mark⟩ := off _ isNamed
        rw [← command, ← mark]
      · rfl
    exact same
  exact congrArg (fun pairs => { s with pairs := pairs }) pairs

/-- No coil of a body pair is on or marked while no set operation runs. -/
theorem CoilsHeld.body_off {s : State} (h : CoilsHeld s) {hb : Headblock} (none : (s.setting.get hb).op = none)
    {p : PairId} (body : bodyPairOf hb p = true) : (s.pair p).command = .bothOff ∧ (s.pair p).offMark = false := by
  obtain ⟨head, isBody⟩ := (bodyPairOf_iff hb p).1 body
  by_contra marked
  rw [not_and_or, Bool.not_eq_false] at marked
  obtain ⟨held, -⟩ := h p marked
  have runs := held (by simpa [PairId.isBody] using isBody)
  rw [head, none] at runs
  cases runs

/-! ## An accepted SET_SPREADER (R96) -/

section
variable {u : State} {hb : Headblock} {target : Setting} {input : Byte}

theorem acceptSet_withoutBody (noInput : u.bodyInput hb = none) : acceptSet hb target u =
    compose (post (.setEnd hb .nodeLost target .none none) (updateSetting hb (fun _ => ⟨none, 0, none⟩) u)) := by
  simp only [acceptSet, noInput, setWithoutBody]

theorem acceptSet_atTarget (held : u.bodyInput hb = some input)
    (done : nextStep? (u.twinCapable hb) target input none = none) : acceptSet hb target u =
      compose (post (.setEnd hb .none target .none (some target))
        (updateSetting hb (fun v => { v with setting := some target }) u)) := by
  simp only [acceptSet, held, done, setAtTarget]

theorem acceptSet_needs {name : StepName} (held : u.bodyInput hb = some input)
    (needed : nextStep? (u.twinCapable hb) target input none = some name) : acceptSet hb target u =
      compose (takeStep hb ⟨target, .gearUp, .offWait, u.setDeadline hb⟩ name input
        (updateSetting hb (fun _ => ⟨none, 0, some ⟨target, .gearUp, .offWait, u.setDeadline hb⟩⟩) u)) := by
  simp only [acceptSet, held, needed, startSetOp]

theorem bodyPairOf_stepPair (hb : Headblock) (step : SetStep) : bodyPairOf hb (step.pair hb) = true := by
  rw [bodyPairOf_iff]
  cases step <;> exact ⟨rfl, Nat.le_of_ble_eq_true rfl⟩

/-- R97, R98: the first needed step begins in OFF_WAIT, its pair's off mark clear. -/
theorem acceptSet_starts {name : StepName} {step : SetStep} (held : u.bodyInput hb = some input)
    (needed : nextStep? (u.twinCapable hb) target input none = some name)
    (begins : stepOf? name target.length input = some step)
    (off : ∀ p, bodyPairOf hb p = true → (u.pair p).command = .bothOff ∧ (u.pair p).offMark = false) :
    acceptSet hb target u =
      compose (updateSetting hb (fun _ => ⟨none, 0, some ⟨target, step, .offWait, u.setDeadline hb⟩⟩) u) := by
  have unmarked := (off _ (bodyPairOf_stepPair hb step)).2
  rw [acceptSet_needs held needed, takeStep]
  simp only [begins]
  rw [beginStep, if_neg (by rw [(updateSetting_keeps _ _ _).pair_eq, unmarked]; decide), setOp,
    updateSetting_updateSetting]

/-- R99: a direction that cannot be decided ends the operation as it begins. -/
theorem acceptSet_positionUnknown (held : u.bodyInput hb = some input)
    (needed : nextStep? (u.twinCapable hb) target input none = some .telescoping)
    (undecided : direction? target.length input = none)
    (off : ∀ p, bodyPairOf hb p = true → (u.pair p).command = .bothOff ∧ (u.pair p).offMark = false) :
    acceptSet hb target u =
      compose (post (.setEnd hb .positionUnknown target .telescoping none)
        (updateSetting hb (fun _ => ⟨none, 0, none⟩) u)) := by
  have begins := stepOf?_undecided undecided
  rw [acceptSet_needs held needed, takeStep]
  simp only [begins]
  rw [setOp, updateSetting_updateSetting, abortSetOp_some (op := ⟨target, .telescoping .extend, .offWait, u.setDeadline hb⟩)
    (by rw [setting_updateSetting, if_pos rfl]), compose_compose, letGo_off, updateSetting_updateSetting]
  · rfl
  · intro p body
    rw [(updateSetting_keeps _ _ _).pair_eq]
    exact off p body

/-- A spreader that passes the checks has no set operation. -/
theorem op_none_of_setRefusal (passed : u.setRefusal hb target = none) : (u.setting.get hb).op = none := by
  by_contra running
  have involved : u.involved hb = true := by
    rw [State.involved, State.setOpOn, Option.isSome_iff_ne_none.2 running, Bool.or_true]
  rw [State.setRefusal, if_pos involved] at passed
  split at passed
  · cases passed
  · split at passed <;> cases passed

end

/-! ## The statement -/

/-- Settles O41: the refusal is the table's (`setRefusal_eq_firstFailing`); an accepted request goes by the first step
that the body node's input image makes necessary. -/
theorem setSpreader : Obligations.SetSpreader := by
  intro s tag free htag coils
  refine ⟨fun b l m range => answers_of_free rfl free htag ?range, fun hb target => ?table⟩
  case range =>
    change answerSetSpreader b l m _ = _
    simp only [answerSetSpreader, targetOf?_eq_none range]
    rfl
  case table =>
    intro request d twin involved served timeout
    have owner : ∀ q, answerRequest 0x18 [headblockCode hb, target.length.code, target.mode.code] (enqueue q s) =
        match s.setRefusal hb target with
        | some status => refuse status (enqueue q s)
        | none => answerAccepted (acceptSet hb target (enqueue q s)) := fun q => by
      change answerSetSpreader _ _ _ (enqueue q s) = _
      simp only [answerSetSpreader, targetOf?_code]
      rfl
    have table := setRefusal_eq_firstFailing (congrArg (· || s.setOpOn hb) (orderInvolves_eq s hb)) (settingValid_eq s hb target)
      (servedMembers_eq s hb)
    refine judged_of_free rfl free htag (fun status failing => ?refused) fun passed => ?accepted
    case refused =>
      refine (owner _).trans ?_
      rw [table.trans failing]
    case accepted =>
      have refusal := table.trans passed
      have off : ∀ p, bodyPairOf hb p = true → _ := fun p => coils.body_off (op_none_of_setRefusal refusal)
      have taken {act : State → State} (accepts : ∀ q, acceptSet hb target (enqueue q s) = act (enqueue q s)) :
          answers request s .accepted [] act :=
        answers_of_free rfl free htag ((owner _).trans (by rw [refusal]; exact congrArg answerAccepted (accepts _)))
      refine ⟨fun noBody => taken fun q => acceptSet_withoutBody (u := enqueue q s) (bodyInput_none (s := s) noBody), ?_⟩
      intro r input node online held sensor up down needUp needDown starts
      have image := bodyInput_some node online held
      have sensors : sensor = posSensor input := funext fun l => by cases l <;> rfl
      have step := nextStep?_first (s.twinCapable hb) target input
      have gearUp : needGearUp (s.twinCapable hb) target input = needUp := by
        rw [twinCapable_eq_any, needGearUp, ← sensors]
        rfl
      have gearDown : needGearDown (s.twinCapable hb) target input = needDown := by
        rw [twinCapable_eq_any, needGearDown]
        rfl
      have telescoping : needTelescoping target input = !sensor target.length := by rw [sensors]; rfl
      rw [gearUp, gearDown, telescoping] at step
      have begun {name : StepName} {begins : SetStep} (needed : nextStep? (s.twinCapable hb) target input none = some name)
          (is : stepOf? name target.length input = some begins) : starts begins :=
        taken fun q => acceptSet_starts (u := enqueue q s) image needed is off
      split
      · next up => exact begun (step.trans (if_pos up)) rfl
      · next notUp =>
        rw [if_neg notUp] at step
        split
        · next away =>
          rw [if_pos away] at step
          rw [sensors]
          refine ⟨fun now on alone => ?_, fun undecided => taken fun q => acceptSet_positionUnknown (u := enqueue q s) image step
            (direction?_none (onePosition?_eq_none undecided)) off⟩
          have shown := onePosition?_eq_some.2 ⟨on, alone⟩
          exact ⟨fun shorter => begun step (stepOf?_telescoping (direction?_extend shown shorter)),
            fun longer => begun step (stepOf?_telescoping (direction?_retract shown longer))⟩
        · next there =>
          rw [if_neg there] at step
          split
          · next down => exact begun (step.trans (if_pos down)) rfl
          · next notDown => exact taken fun q => acceptSet_atTarget (u := enqueue q s) image (step.trans (if_neg notDown))

end Sys2Proof.Machine
end

section
/-! SUPPORT. Progress of an order's members and of a set operation, and the statement about it. -/

namespace Sys2Proof.Machine

-- One theorem at a time: proofs that wait for one another hold a thread each.
set_option Elab.async false

/-! ## One member on a good reply of its node (R40 to R44) -/

/-- R41: what a member enters from OFF_WAIT, or from a slip with its opposite coil seen. -/
def State.waitProgress (s : State) (kind : OrderKind) (m : Member) : Progress :=
  if s.deadTimePassed m.pair kind.coil then .driving else .deadWait

theorem enterDeadWait_eq (s : State) (kind : OrderKind) (om : OrderMember) :
    s.enterDeadWait kind om = ⟨om.member, s.waitProgress kind om.member, false⟩ := rfl

theorem slip_eq (s : State) (kind : OrderKind) (om : OrderMember) : s.slip kind om =
    ⟨om.member, if om.oppositeSeen then s.waitProgress kind om.member else .driving, false⟩ := by
  obtain ⟨m, progress, seen⟩ := om
  cases seen <;> rfl

/-- R42: the opposite coil has been seen, in this reply or before it. -/
def State.oppositeShown (s : State) (kind : OrderKind) (om : OrderMember) : Bool :=
  om.oppositeSeen || (s.echo om.member.pair).shows kind.coil.opposite

theorem oppositeShown_iff (s : State) (kind : OrderKind) (om : OrderMember) : s.oppositeShown kind om = true ↔
    om.oppositeSeen = true ∨ s.echo om.member.pair = .on kind.coil.opposite ∨ s.echo om.member.pair = .bothOn := by
  simp [State.oppositeShown, Echo.shows]

section
variable {s : State} {kind : OrderKind} {om : OrderMember}

theorem memberOnReply_offWait (h : om.progress = .offWait) : s.memberOnReply kind om =
    if s.echo om.member.pair = .bothOff then ⟨om.member, s.waitProgress kind om.member, false⟩ else om := by
  simp only [State.memberOnReply, h, beq_iff_eq]
  rfl

theorem memberOnReply_deadWait (h : om.progress = .deadWait) : s.memberOnReply kind om =
    if (s.echo om.member.pair).anyOn then { om with progress := .offWait } else om := by
  simp only [State.memberOnReply, h]

theorem memberOnReply_driving (h : om.progress = .driving) : s.memberOnReply kind om =
    ⟨om.member, if (s.member om.member).position = kind.target then .settling 0 else .driving, s.oppositeShown kind om⟩ := by
  simp only [State.memberOnReply, h, beq_iff_eq]
  split <;> rfl

theorem memberOnReply_settling {count : Nat} (h : om.progress = .settling count) : s.memberOnReply kind om =
    if (s.member om.member).position = kind.target then
      ⟨om.member, if s.echo om.member.pair ≠ .bothOff then .settling count
        else if s.settleLimit om.member ≤ count + 1 then .settled else .settling (count + 1), s.oppositeShown kind om⟩
    else ⟨om.member, if s.oppositeShown kind om then s.waitProgress kind om.member else .driving, false⟩ := by
  simp only [State.memberOnReply, h, slip_eq, State.settleOnce, ite_not, Bool.not_eq_true', beq_eq_false_iff_ne, ne_eq,
    beq_iff_eq, State.oppositeShown]
  split
  · split <;> rfl
  · rfl

theorem memberOnReply_settled (h : om.progress = .settled) : s.memberOnReply kind om =
    if (s.member om.member).position = kind.target then ⟨om.member, .settled, s.oppositeShown kind om⟩
    else ⟨om.member, if s.oppositeShown kind om then s.waitProgress kind om.member else .driving, false⟩ := by
  simp only [State.memberOnReply, h, slip_eq, beq_iff_eq, State.oppositeShown]
  split <;> rfl

theorem memberOnReply_failed (h : om.progress = .failed) : s.memberOnReply kind om = om := by
  simp only [State.memberOnReply, h]

end

/-! ## What the members' progress gives (R39, R45, R46) -/

theorem turningStage_eq (members : List OrderMember) : turningStage members =
    if ∀ om ∈ members, om.progress = .settled ∨ om.progress.count? ≠ none then .settling else .turning := by
  simp only [turningStage, List.all_eq_true, Bool.or_eq_true, beq_iff_eq, Option.isSome_iff_ne_none]

/-- The pair's member enters DRIVING. -/
def startsDriving (old new : List OrderMember) (p : PairId) : Bool :=
  (old.zip new).any fun (o, n) => n.member.pair == p && o.progress != .driving && n.progress == .driving

/-- The pair's member leaves DRIVING. -/
def stopsDriving (old new : List OrderMember) (p : PairId) : Bool :=
  (old.zip new).any fun (o, n) => n.member.pair == p && o.progress == .driving && n.progress != .driving

theorem startsDriving_iff {old new : List OrderMember} {p : PairId} : startsDriving old new p = true ↔
    ∃ e ∈ old.zip new, e.2.member.pair = p ∧ e.1.progress ≠ .driving ∧ e.2.progress = .driving := by
  simp [startsDriving, and_assoc]

theorem stopsDriving_iff {old new : List OrderMember} {p : PairId} : stopsDriving old new p = true ↔
    ∃ e ∈ old.zip new, e.2.member.pair = p ∧ e.1.progress = .driving ∧ e.2.progress ≠ .driving := by
  simp [stopsDriving, and_assoc]

/-- R39, R45: the order with its members' new progress, and the claims that change. -/
def progressed (head : OrderHead) (old new : List OrderMember) (deadline : Nat) (s : State) : State :=
  claimOn (startsDriving old new) head.kind.coil
    (claimOff (stopsDriving old new) { s with order := .active (turningStage new) head new deadline })

section
variable {s : State} {stage : ActiveStage} {head : OrderHead} {old new : List OrderMember} {deadline : Nat}

theorem setProgress_active (h : s.order = .active stage head old deadline) : setProgress new s =
    if ∀ om ∈ new, om.progress = .settled then
      endToIdle head .done new (letGo (progressed head old new deadline s).orderPair (progressed head old new deadline s))
    else if turningStage new = stage then progressed head old new deadline s
    else post (.orderStage (turningStage new).stage head) (progressed head old new deadline s) := by
  have settled : (new.all fun om => om.progress == .settled) = true ↔ ∀ om ∈ new, om.progress = .settled := by simp
  simp only [setProgress, h, settled]
  rfl

theorem progressed_keeps : keeps [.order, .pairs] s (progressed head old new deadline s) :=
  (((setOrder_keeps _ _).mono (by decide)).trans ((claimOff_keeps _ _).mono (by decide))).trans
    ((claimOn_keeps _ _ _).mono (by decide))

theorem progressed_orderPair (p : PairId) :
    (progressed head old new deadline s).orderPair p = true ↔ ∃ om ∈ new, om.member.pair = p := orderPair_iff _ p

/-- The claims concern the order's own pairs. -/
theorem pair_progressed_other {p : PairId} (other : ¬∃ om ∈ new, om.member.pair = p) :
    (progressed head old new deadline s).pair p = s.pair p := by
  have notStarts : startsDriving old new p = false := by
    rw [Bool.eq_false_iff, Ne, startsDriving_iff]
    exact fun ⟨e, listed, is, _⟩ => other ⟨e.2, (List.of_mem_zip listed).2, is⟩
  have notStops : stopsDriving old new p = false := by
    rw [Bool.eq_false_iff, Ne, stopsDriving_iff]
    exact fun ⟨e, listed, is, _⟩ => other ⟨e.2, (List.of_mem_zip listed).2, is⟩
  rw [progressed, pair_claimOn, notStarts, if_neg (by simp), pair_claimOff, if_neg (by simp [notStops])]
  rfl

/-- R39: the claims of the members that leave and enter DRIVING. -/
theorem progressed_eq : progressed head old new deadline s =
    claimOn (fun p => decide (∃ e ∈ old.zip new,
        e.2.member.pair = p ∧ e.1.progress ≠ .driving ∧ e.2.progress = .driving)) head.kind.coil
      (updatePairs (fun p r => if ∃ e ∈ old.zip new, e.2.member.pair = p ∧ e.1.progress = .driving ∧ e.2.progress ≠ .driving
          then { r with command := .bothOff } else r)
        { s with order := .active (turningStage new) head new deadline }) := by
  have starts : startsDriving old new = fun p => decide (∃ e ∈ old.zip new,
      e.2.member.pair = p ∧ e.1.progress ≠ .driving ∧ e.2.progress = .driving) := funext fun p => by
    rw [Bool.eq_iff_iff, startsDriving_iff, decide_eq_true_eq]
  rw [progressed, starts, claimOff]
  simp only [stopsDriving_iff]

/-- The claims concern commands alone. -/
theorem pair_progressed_command (p : PairId) (command : Command) :
    { (progressed head old new deadline s).pair p with command := command } = { s.pair p with command := command } := by
  rw [progressed, pair_claimOn, pair_claimOff]
  split <;> split <;> rfl

/-- R46: the ending DONE lets the order's pairs go. -/
theorem pair_setProgress_done (h : s.order = .active stage head old deadline) (done : ∀ om ∈ new, om.progress = .settled)
    (p : PairId) : (setProgress new s).pair p = if ∃ om ∈ new, om.member.pair = p then
      { s.pair p with command := .bothOff, offMark := false } else s.pair p := by
  rw [setProgress_active h, if_pos done, (endToIdle_keeps _ _ _ _).pair_eq, pair_letGo]
  simp only [progressed_orderPair]
  split
  · exact congrArg (fun r : Pair => { r with offMark := false }) (pair_progressed_command p .bothOff)
  · next other => exact pair_progressed_other other

theorem order_setProgress_done (h : s.order = .active stage head old deadline) (done : ∀ om ∈ new, om.progress = .settled) :
    (setProgress new s).order = .idle := by
  rw [setProgress_active h, if_pos done]
  rfl

theorem notices_setProgress_done (h : s.order = .active stage head old deadline) (done : ∀ om ∈ new, om.progress = .settled) :
    (setProgress new s).notices = (postAll [.orderStage .idle head,
      .orderEnd head .done .done (new.map fun om => (om.member, om.progress))] s).notices := by
  have k := progressed_keeps (s := s) (head := head) (old := old) (new := new) (deadline := deadline)
  rw [setProgress_active h, if_pos done]
  exact notices_postAll_congr k.notices_eq k.time_eq _

/-- R45: an order whose members are not all SETTLED goes on, its stage the members'. -/
theorem setProgress_turning (h : s.order = .active stage head old deadline) (turning : ¬∀ om ∈ new, om.progress = .settled) :
    (setProgress new s).order = .active (turningStage new) head new deadline ∧
    (setProgress new s).pairs = (progressed head old new deadline s).pairs ∧
    (setProgress new s).notices =
      (postAll (if turningStage new = stage then [] else [.orderStage (turningStage new).stage head]) s).notices := by
  have k := progressed_keeps (s := s) (head := head) (old := old) (new := new) (deadline := deadline)
  rw [setProgress_active h, if_neg turning]
  split
  · exact ⟨rfl, rfl, k.notices_eq⟩
  · exact ⟨rfl, rfl, notices_postAll_congr k.notices_eq k.time_eq _⟩

end

/-! ## The step of a set operation on a reply of the body node (R98 to R101) -/

section
variable {s : State} {hb : Headblock} {op : SetOp} {latching : List PairId} {input : Byte}

theorem latching_iff : latching.any (bodyPairOf hb) = true ↔ ∃ p ∈ latching, p.hb = hb ∧ 8 ≤ p.i.val := by
  simp only [List.any_eq_true, bodyPairOf_iff]

theorem settingOnReply_latched (runs : (s.setting.get hb).op = some op)
    (latched : ∃ p ∈ latching, p.hb = hb ∧ 8 ≤ p.i.val) :
    settingOnReply hb bodyNode latching input s = abortSetOp hb .coilFault s := by
  rw [settingOnReply, if_pos rfl, settingOnBodyReply, runs]
  exact if_pos (latching_iff.2 latched)

theorem settingOnReply_step (runs : (s.setting.get hb).op = some op)
    (noLatch : ¬∃ p ∈ latching, p.hb = hb ∧ 8 ≤ p.i.val) :
    settingOnReply hb bodyNode latching input s = stepOnReply hb op input s := by
  rw [settingOnReply, if_pos rfl, settingOnBodyReply, runs]
  exact if_neg (mt latching_iff.1 noLatch)

/-- R101: what an abort of a set operation does. -/
theorem abortSetOp_ends (runs : (s.setting.get hb).op = some op) (reason : SetReason) : abortSetOp hb reason s =
    compose (post (.setEnd hb reason op.target op.step.name none) (updateSetting hb (fun _ => ⟨none, 0, none⟩)
      (updatePairs (fun p r => if p.hb = hb ∧ 8 ≤ p.i.val then { r with command := .bothOff, offMark := false } else r) s))) := by
  rw [abortSetOp_some runs, letGo_bodyPairOf]

theorem completeSetOp_ends (s : State) (hb : Headblock) (op : SetOp) : completeSetOp hb op s =
    compose (post (.setEnd hb .none op.target op.step.name (some op.target)) (updateSetting hb (fun _ => ⟨some op.target, 0, none⟩)
      (updatePairs (fun p r => if p.hb = hb ∧ 8 ≤ p.i.val then { r with command := .bothOff, offMark := false } else r) s))) := by
  rw [completeSetOp, letGo_bodyPairOf]

theorem updatePairs_updateSetting (f : PairId → Pair → Pair) (g : SettingUnit → SettingUnit) :
    updatePairs f (updateSetting hb g s) = updateSetting hb g (updatePairs f s) := rfl

/-- R99: the abort of an operation whose next direction cannot be decided names TELESCOPING. -/
theorem takeStep_undecided (undecided : direction? op.target.length input = none) :
    takeStep hb op .telescoping input s =
      compose (post (.setEnd hb .positionUnknown op.target .telescoping none) (updateSetting hb (fun _ => ⟨none, 0, none⟩)
        (updatePairs (fun p r => if p.hb = hb ∧ 8 ≤ p.i.val then { r with command := .bothOff, offMark := false } else r) s))) := by
  simp only [takeStep, stepOf?_undecided undecided]
  rw [abortSetOp_ends (op := { op with step := .telescoping .extend }) (by rw [setOp, setting_updateSetting, if_pos rfl]),
    setOp, updatePairs_updateSetting, updateSetting_updateSetting]
  rfl

theorem takeStep_begins {name : StepName} {step : SetStep} (begins : stepOf? name op.target.length input = some step) :
    takeStep hb op name input s = beginStep hb { op with step := step } s := by
  simp only [takeStep, begins]

theorem stepOnReply_offWait (h : op.phase = .offWait) : stepOnReply hb op input s =
    if s.echo (op.step.pair hb) = .bothOff then enterStepDeadWait hb op s else s := by
  simp only [stepOnReply, h]

theorem stepOnReply_deadWait (h : op.phase = .deadWait) : stepOnReply hb op input s =
    if (s.echo (op.step.pair hb)).anyOn then setOp hb { op with phase := .offWait } s else s := by
  simp only [stepOnReply, h]

theorem stepOnReply_driving (h : op.phase = .driving) : stepOnReply hb op input s =
    if stepSeen op input then
      updatePairs (fun p r => if p = op.step.pair hb then { r with command := .bothOff } else r)
        (setOp hb { op with phase := .stopping } s)
    else s := by
  simp only [stepOnReply, h, claimOff, beq_iff_eq]

theorem stepOnReply_stopping_on (h : op.phase = .stopping) (on : s.echo (op.step.pair hb) ≠ .bothOff) :
    stepOnReply hb op input s = s := by
  simp only [stepOnReply, h, if_neg on]

theorem stepOnReply_stopping_off (h : op.phase = .stopping) (off : s.echo (op.step.pair hb) = .bothOff) :
    stepOnReply hb op input s = endStep hb op input s := by
  simp only [stepOnReply, h, if_pos off]

/-- R97, R99: the steps that can follow a step. -/
theorem nextStep?_after (twin : Bool) (target : Setting) (input : Byte) (step : SetStep) :
    nextStep? twin target input (some step.name) =
      if step = .gearUp ∧ posSensor input target.length = false then some .telescoping
      else if step ≠ .gearDown ∧ twin = true ∧ target.mode = .twin ∧ gearDown input = false then some .gearDown
      else none := by
  cases step <;> simp [nextStep?, SetStep.name, StepName.rank, needTelescoping, needGearDown, and_assoc]

/-- R99, R100: what the end of a step leads to. -/
theorem endStep_eq (s : State) (hb : Headblock) (op : SetOp) (input : Byte) : endStep hb op input s =
    if op.step = .gearUp ∧ posSensor input op.target.length = false then takeStep hb op .telescoping input s
    else if op.step ≠ .gearDown ∧ s.twinCapable hb = true ∧ op.target.mode = .twin ∧ gearDown input = false then
      beginStep hb { op with step := .gearDown } s
    else completeSetOp hb op s := by
  have next := nextStep?_after (s.twinCapable hb) op.target input op.step
  by_cases telescopes : op.step = .gearUp ∧ posSensor input op.target.length = false
  · rw [if_pos telescopes] at next ⊢
    simp only [endStep, next]
  rw [if_neg telescopes] at next ⊢
  by_cases lowers : op.step ≠ .gearDown ∧ s.twinCapable hb = true ∧ op.target.mode = .twin ∧ gearDown input = false
  · rw [if_pos lowers] at next ⊢
    simp only [endStep, next]
    exact takeStep_begins rfl
  · rw [if_neg lowers] at next ⊢
    simp only [endStep, next]

/-! ## The setting watch and the aborts of a set operation (R94, R101) -/

theorem settingOnReply_watched {setting : Setting} (idle : (s.setting.get hb).op = none)
    (held : (s.setting.get hb).setting = some setting) (armed : (s.attach.get hb).state = .armed) :
    settingOnReply hb bodyNode latching input s = watchSetting hb setting input s := by
  rw [settingOnReply, if_pos rfl, settingOnBodyReply, idle, held]
  exact if_pos armed

theorem settingOnReply_unwatched (idle : (s.setting.get hb).op = none)
    (unwatched : (s.setting.get hb).setting = none ∨ (s.attach.get hb).state ≠ .armed) :
    settingOnReply hb bodyNode latching input s = s := by
  rw [settingOnReply, if_pos rfl, settingOnBodyReply, idle]
  cases held : (s.setting.get hb).setting with
  | none => rfl
  | some setting => exact if_neg (unwatched.resolve_left (by rw [held]; simp))

theorem watchedOn_iff (twin : Bool) (setting : Setting) : watchedOn twin setting input = true ↔
    posSensor input setting.length = true ∧
      (twin = true → input.getLsbD (match setting.mode with | .single => 4 | .twin => 3) = true) := by
  rw [watchedOn, Bool.and_eq_true]
  cases twin <;> cases setting.mode <;> simp

/-- R94: the setting watch forgives two replies in a row. -/
theorem watchSetting_eq (s : State) (hb : Headblock) (setting : Setting) (input : Byte) : watchSetting hb setting input s =
    if posSensor input setting.length = true ∧ ((s.attach.get hb).descriptor.any Descriptor.twin = true →
        input.getLsbD (match setting.mode with | .single => 4 | .twin => 3) = true) then
      updateSetting hb (fun u => { u with watch := 0 }) s
    else if (s.setting.get hb).watch < 2 then
      updateSetting hb (fun u => { u with watch := (s.setting.get hb).watch + 1 }) s
    else compose (updateSetting hb (fun u => { u with setting := none, watch := 0 }) s) := by
  have twice : (s.setting.get hb).watch + 1 < 3 ↔ (s.setting.get hb).watch < 2 := by omega
  rw [watchSetting, twinCapable_eq_any]
  simp only [watchedOn_iff, twice]
  rfl

theorem settingOnReply_corner {n : NodeIx} (corner : n.val < 4) (latching : List PairId) (input : Byte) :
    settingOnReply hb n latching input s = settingOnCornerReply hb n s := by
  rw [settingOnReply, if_neg (by rintro rfl; exact absurd corner (by decide)), if_pos corner]

theorem settingOnReply_aux {n : NodeIx} (aux : 4 < n.val) (latching : List PairId) (input : Byte) :
    settingOnReply hb n latching input s = s := by
  rw [settingOnReply, if_neg (by rintro rfl; exact absurd aux (by decide)), if_neg (by omega)]

theorem landedMember_iff (s : State) (hb : Headblock) (n : NodeIx) :
    ((nodeMembers hb n).any fun m => s.served m && (s.member m).landed == .on) = true ↔
      ∃ m ∈ nodeMembers hb n, (m.k.val < 4 ∨ (s.attach.get hb).descriptor.any Descriptor.twin = true) ∧
        (s.member m).landed = .on := by
  simp only [List.any_eq_true, Bool.and_eq_true, beq_iff_eq]
  refine exists_congr fun m => and_congr_right fun listed => and_congr_left fun _ => ?_
  exact served_iff (mem_membersOf.2 (mem_nodeMembers.1 listed).1)

end

/-! ## The statement -/

/-- Settles O22: a member by its progress, the order by what its members' progress gives, a set operation by the phase
and the step it is in. -/
theorem memberProgress : Obligations.MemberProgress := by
  refine ⟨fun s kind om profile loaded => ?members, fun s stage head old new deadline active => ?order,
    fun s hb latching input => ?setting⟩
  case members =>
    intro echo atTarget wait opposite t
    refine ⟨memberOnReply_member s kind om, ?_⟩
    have limit : s.settleLimit om.member = profile.settleLimit := by rw [State.settleLimit, loaded]; rfl
    have shown : s.oppositeShown kind om = decide opposite := by
      rw [Bool.eq_iff_iff, oppositeShown_iff, decide_eq_true_eq]
    have waits : s.waitProgress kind om.member = wait := rfl
    cases h : om.progress with
    | offWait =>
      rw [show t = _ from memberOnReply_offWait h, waits]
      by_cases off : echo = .bothOff
      · simp [show s.echo om.member.pair = .bothOff from off, echo]
      · simp [show ¬s.echo om.member.pair = .bothOff from off, echo, h]
    | deadWait =>
      rw [show t = _ from memberOnReply_deadWait h]
      by_cases on : (s.echo om.member.pair).anyOn = true <;> simp [on, echo, h]
    | driving =>
      rw [show t = _ from memberOnReply_driving h, shown]
      exact ⟨rfl, rfl⟩
    | settling count =>
      rw [show t = _ from memberOnReply_settling h, shown, waits, limit]
      by_cases onTarget : (s.member om.member).position = kind.target <;> simp [onTarget, atTarget, echo]
    | settled =>
      rw [show t = _ from memberOnReply_settled h, shown, waits]
      by_cases onTarget : (s.member om.member).position = kind.target <;> simp [onTarget, atTarget]
    | failed =>
      rw [show t = _ from memberOnReply_failed h]
      exact ⟨rfl, h⟩
  case order =>
    intro t after starts stops
    have stageIs : after = turningStage new := (turningStage_eq new).symm
    have claims : progressed head old new deadline s = _ := progressed_eq
    refine ⟨fun done => ⟨order_setProgress_done active done, pair_setProgress_done active done,
      notices_setProgress_done active done⟩, fun turning => ?_, setProgress_keeps _ _⟩
    rw [stageIs]
    obtain ⟨order, pairs, notices⟩ := setProgress_turning active turning
    exact ⟨order, pairs.trans (congrArg State.pairs claims), notices⟩
  case setting =>
    intro unit twin sensor up down ends put waits begins t
    have sensors : sensor = posSensor input := funext fun l => by cases l <;> rfl
    refine ⟨fun op runs => ?step, fun setting idle held armed => ?watch, fun idle unwatched =>
      settingOnReply_unwatched idle unwatched, fun n corner => ?landed, fun n aux => settingOnReply_aux aux _ _,
      fun n => ?lost⟩
    case step =>
      intro echo
      refine ⟨fun latched => (settingOnReply_latched runs latched).trans (abortSetOp_ends runs _), fun noLatch => ?_⟩
      rw [show t = _ from settingOnReply_step runs noLatch]
      refine ⟨fun phase => stepOnReply_offWait phase, fun phase => stepOnReply_deadWait phase,
        fun phase => (stepOnReply_driving phase).trans ?_, fun phase on => stepOnReply_stopping_on phase on,
        fun phase off => ?_⟩
      · rw [sensors]
        rfl
      · intro telescopes lowers
        have telescopesIs : telescopes ↔ op.step = .gearUp ∧ posSensor input op.target.length = false := by
          rw [← sensors]
        have lowersIs : lowers ↔ op.step ≠ .gearDown ∧ s.twinCapable hb = true ∧ op.target.mode = .twin ∧
            gearDown input = false := by
          rw [twinCapable_eq_any]
          rfl
        rw [stepOnReply_stopping_off phase off, endStep_eq]
        refine ⟨fun yes => ?_, fun no low => ?_, fun no high => ?_⟩
        · rw [if_pos (telescopesIs.1 yes), sensors]
          refine ⟨fun now on alone => ?_, fun undecided =>
            takeStep_undecided (direction?_none (onePosition?_eq_none undecided))⟩
          have shown := onePosition?_eq_some.2 ⟨on, alone⟩
          exact ⟨fun shorter => takeStep_begins (stepOf?_telescoping (direction?_extend shown shorter)),
            fun longer => takeStep_begins (stepOf?_telescoping (direction?_retract shown longer))⟩
        · rw [if_neg (mt telescopesIs.2 no), if_pos (lowersIs.1 low)]
          rfl
        · rw [if_neg (mt telescopesIs.2 no), if_neg (mt lowersIs.2 high)]
          exact completeSetOp_ends s hb op
    case watch =>
      rw [show t = _ from settingOnReply_watched idle held armed, sensors]
      exact watchSetting_eq s hb setting input
    case landed =>
      rw [settingOnReply_corner corner, settingOnCornerReply]
      simp only [landedMember_iff]
      cases running : unit.op with
      | none => rw [abortSetOp_none running, ite_self]
      | some op => rw [abortSetOp_ends running]
    case lost =>
      rw [settingNodeLost]
      cases running : unit.op with
      | none => rw [abortSetOp_none running, ite_self]
      | some op => rw [abortSetOp_ends running]

end Sys2Proof.Machine
end

section
/-! SUPPORT. What the composition, an abort of a set operation and a leave of bypass do to the order and its pairs after a
change of attachment state. -/

namespace Sys2Proof.Machine

-- One theorem at a time: proofs that wait for one another hold a thread each.
set_option Elab.async false

/-! ## Pairs let go and notices given, step by step -/

/-- From `s` to `t` the pairs named are let go, the notices are posted and no time passes. -/
structure LetsGo (named : PairId → Bool) (bodies : List NoticeBody) (s t : State) : Prop where
  pair : ∀ p, t.pair p = if named p then { s.pair p with command := .bothOff, offMark := false } else s.pair p
  posts : Posts bodies s t

namespace LetsGo

variable {named other : PairId → Bool} {bodies more : List NoticeBody} {s t u : State}

theorem still (posts : Posts bodies s t) (pairs : t.pairs = s.pairs := by rfl) : LetsGo (fun _ => false) bodies s t where
  pair p := by rw [State.pair, pairs]; rfl
  posts := posts

theorem trans (h : LetsGo named bodies s t) (k : LetsGo other more t u) :
    LetsGo (fun p => named p || other p) (bodies ++ more) s u where
  pair p := by
    rw [k.pair, h.pair]
    cases named p <;> cases other p <;> rfl
  posts := h.posts.trans k.posts

theorem congr (h : LetsGo named bodies s t) (same : ∀ p, named p = other p) (notices : bodies = more) :
    LetsGo other more s t where
  pair p := by rw [h.pair, same]
  posts := notices ▸ h.posts

end LetsGo

/-! ## An order that is held in FAULT_HELD (R46, R47) -/

/-- R46: what an entry to FAULT_HELD posts. -/
def heldNotices (head : OrderHead) (members : List OrderMember) (reason : EndReason) : List NoticeBody :=
  [.orderStage .faultHeld head, .orderEnd head .held reason (members.map fun om => (om.member, om.progress))]

/-- Members of an order as an abort leaves them: those that failed are FAILED. -/
def failWhere (failed : OrderMember → Bool) (members : List OrderMember) : List OrderMember :=
  members.map fun om => if failed om then { om with progress := .failed } else om

theorem member_failWhere (failed : OrderMember → Bool) (members : List OrderMember) (p : PairId) :
    (∃ om ∈ failWhere failed members, om.member.pair = p) ↔ ∃ om ∈ members, om.member.pair = p := by
  simp [failWhere, apply_ite OrderMember.member]

section
variable {s : State} {stage : ActiveStage} {head : OrderHead} {members : List OrderMember} {due : Nat}

theorem orderPair_active (h : s.order = .active stage head members due) (p : PairId) :
    s.orderPair p = true ↔ ∃ om ∈ members, om.member.pair = p := by
  rw [orderPair_iff, h]
  rfl

theorem orderPair_of_not_runs (h : s.order.runs = false) (p : PairId) : s.orderPair p = false := by
  cases order : s.order <;> simp_all [State.orderPair, OrderRec.activeMembers, OrderRec.runs]

/-- No pair is an order's while no order runs. -/
theorem LetsGo.of_not_runs {bodies : List NoticeBody} {t : State} (h : s.order.runs = false) (posts : Posts bodies s t)
    (pairs : t.pairs = s.pairs := by rfl) : LetsGo s.orderPair bodies s t :=
  (LetsGo.still posts pairs).congr (fun p => (orderPair_of_not_runs h p).symm) rfl

theorem heldOrder_letsGo (h : s.order = .active stage head members due) (failed : OrderMember → Bool) (reason : EndReason) :
    LetsGo s.orderPair (heldNotices head (failWhere failed members) reason) s
      (heldOrder head (failWhere failed members) reason s) where
  pair p := by
    rw [heldOrder_pair]
    simp only [member_failWhere, orderPair_active h]
  posts := ⟨heldOrder_notices _ _ _ _, rfl⟩

/-! ## The composition (R11, R12) -/

/-- R12: a composition that finds the list changed aborts the order that runs. -/
theorem compose_aborts (changed : s.composed ≠ s.group.members) (h : s.order = .active stage head members due) :
    compose s = heldOrder head (failWhere (fun om => !s.ready om.member.hb) members) .spreaderLost
      { s with group := { s.group with members := s.composed } } := by
  rw [compose_changed changed, abortOrder_active (s := { s with group := { s.group with members := s.composed } }) h]
  rfl

theorem compose_letsGo_changed (changed : s.composed ≠ s.group.members) (h : s.order = .active stage head members due) :
    LetsGo s.orderPair (heldNotices head (failWhere (fun om => !s.ready om.member.hb) members) .spreaderLost) s (compose s) ∧
      (compose s).order = .faultHeld head (failWhere (fun om => !s.ready om.member.hb) members) .spreaderLost := by
  have held := heldOrder_letsGo (s := { s with group := { s.group with members := s.composed } }) h
    (fun om => !s.ready om.member.hb) .spreaderLost
  rw [compose_aborts changed h]
  exact ⟨⟨held.pair, held.posts.notices, held.posts.time⟩, rfl⟩

/-- A composition with the list as it was, or with no order running, touches neither the order nor a pair. -/
theorem compose_letsGo_still (h : s.composed = s.group.members ∨ s.order.runs = false) :
    LetsGo (fun _ => false) [] s (compose s) ∧ (compose s).order = s.order := by
  obtain same | still := h
  · rw [compose_same same]
    exact ⟨.still .silent, rfl⟩
  · rw [compose_of_not_runs still]
    exact ⟨.still .silent, rfl⟩

end

/-! ## The abort of a set operation (R101) -/

/-- R104: SET_END of the set operation that an abort finds. -/
def State.setEnd (s : State) (hb : Headblock) (reason : SetReason) : List NoticeBody :=
  match (s.setting.get hb).op with
  | none => []
  | some op => [.setEnd hb reason op.target op.step.name none]

/-- R101: where the end of the operation changes no member list, its abort lets the body pairs go and no other. -/
theorem abortSetOp_letsGo {s : State} {hb : Headblock} (reason : SetReason)
    (composed : (updateSetting hb (fun _ => ⟨none, 0, none⟩) s).composed = s.group.members) :
    LetsGo (fun p => s.setOpOn hb && bodyPairOf hb p) (s.setEnd hb reason) s (abortSetOp hb reason s) ∧
      (abortSetOp hb reason s).order = s.order := by
  unfold State.setOpOn State.setEnd
  cases op : (s.setting.get hb).op with
  | none =>
    rw [abortSetOp_none op]
    exact ⟨⟨fun p => rfl, .silent⟩, rfl⟩
  | some op' =>
    have same := composed_congr (s := updateSetting hb (fun _ => ⟨none, 0, none⟩) s)
      (t := post (.setEnd hb reason op'.target op'.step.name none)
        (updateSetting hb (fun _ => ⟨none, 0, none⟩) (letGo (bodyPairOf hb) s))) rfl rfl rfl
    rw [abortSetOp_some op, compose_same (same.trans composed)]
    exact ⟨⟨fun p => pair_letGo _ s p, .of_post _ _⟩, rfl⟩

/-! ## A leave of bypass (R53, R109) -/

/-- R53: what a leave of bypass makes of an order. -/
def OrderRec.bypassLeft : OrderRec → OrderRec
  | .proposed _ _ => .idle
  | .active _ head members _ => .faultHeld head members .bypassLeft
  | .idle => .idle
  | .suspended head => .suspended head
  | .faultHeld head members reason => .faultHeld head members reason

/-- R53: what a leave of bypass posts of an order. -/
def OrderRec.bypassNotices : OrderRec → List NoticeBody
  | .proposed head _ => [.orderStage .idle head, .orderEnd head .ended .bypassLeft []]
  | .active _ head members _ => heldNotices head members .bypassLeft
  | .idle | .suspended _ | .faultHeld _ _ _ => []

theorem orderBypassLeft_letsGo (s : State) : LetsGo s.orderPair s.order.bypassNotices s (orderBypassLeft s) ∧
    (orderBypassLeft s).order = s.order.bypassLeft := by
  unfold OrderRec.bypassNotices OrderRec.bypassLeft
  cases h : s.order with
  | proposed head due =>
    rw [orderBypassLeft_proposed h]
    exact ⟨.of_not_runs (by rw [h]; rfl) (.of_postAll { s with order := .idle } _), rfl⟩
  | active stage head members due =>
    rw [orderBypassLeft_active h]
    have held := heldOrder_letsGo h (fun _ => false) .bypassLeft
    rw [show failWhere (fun _ => false) members = members from by simp [failWhere]] at held
    exact ⟨held, rfl⟩
  | idle =>
    rw [orderBypassLeft_idle h]
    exact ⟨.of_not_runs (by rw [h]; rfl) .silent, h⟩
  | suspended head =>
    rw [orderBypassLeft_suspended h]
    exact ⟨.of_not_runs (by rw [h]; rfl) .silent, h⟩
  | faultHeld head members reason =>
    rw [orderBypassLeft_faultHeld h]
    exact ⟨.of_not_runs (by rw [h]; rfl) .silent, h⟩

theorem leaveBypass_letsGo {s : State} {hb : Headblock} (on : s.bypass = some hb) (cause : LeaveCause) :
    LetsGo s.orderPair (.bypassState false hb (some cause) :: s.order.bypassNotices) s (leaveBypass cause s) ∧
      (leaveBypass cause s).order = s.order.bypassLeft ∧ (leaveBypass cause s).bypass = none ∧
      (leaveBypass cause s).choices = s.choices := by
  obtain ⟨left, order⟩ := orderBypassLeft_letsGo (post (.bypassState false hb (some cause)) { s with bypass := none })
  have first : LetsGo (fun _ => false) [.bypassState false hb (some cause)] s
      (post (.bypassState false hb (some cause)) { s with bypass := none }) := .still (.of_post _ _)
  rw [leaveBypass_on on]
  refine ⟨(first.trans left).congr (fun p => Bool.false_or _) rfl, order, ?_, ?_⟩
  · rw [(orderBypassLeft_keeps _).bypass_eq]
    rfl
  · rw [(orderBypassLeft_keeps _).choices_eq]
    rfl

end Sys2Proof.Machine
end

section
/-! SUPPORT. A change of attachment state handed on to the composition, the set operation and bypass. -/

namespace Sys2Proof.Machine

-- One theorem at a time: proofs that wait for one another hold a thread each.
set_option Elab.async false

/-! ## A spreader that has left ARMED -/

/-- R92: a spreader that has left ARMED, its setting discarded. -/
structure Departed (hb : Headblock) (u : State) : Prop where
  unarmed : (u.attach.get hb).state ≠ .armed
  unset : (u.setting.get hb).setting = none

theorem Departed.congr {hb : Headblock} {u v : State} (h : Departed hb u) (attach : v.attach = u.attach)
    (setting : v.setting = u.setting) : Departed hb v := ⟨attach ▸ h.unarmed, setting ▸ h.unset⟩

/-- R10: the end of its set operation changes nothing for a composition. -/
theorem Departed.composed_ended {hb : Headblock} {u : State} (h : Departed hb u) :
    (updateSetting hb (fun _ => ⟨none, 0, none⟩) u).composed = u.composed := by
  have ready : (updateSetting hb (fun _ => ⟨none, 0, none⟩) u).ready = u.ready := funext fun other => by
    by_cases is : other = hb
    · subst is
      have unarmed : (u.attachState other == .armed) = false := by simpa [State.attachState] using h.unarmed
      rw [State.ready, State.ready, show (updateSetting other _ u).attachState other = u.attachState other from rfl, unarmed]
      rfl
    · rw [State.ready, State.ready, State.setOpOn, setting_updateSetting, if_neg is]
      rfl
  have twin : (updateSetting hb (fun _ => ⟨none, 0, none⟩) u).twinMode = u.twinMode := funext fun other => by
    by_cases is : other = hb
    · rw [State.twinMode, State.twinMode, setting_updateSetting, if_pos is, is, h.unset]
    · rw [State.twinMode, State.twinMode, setting_updateSetting, if_neg is]
  rw [State.composed, ready, twin]
  rfl

theorem Departed.compose {hb : Headblock} {u : State} (h : Departed hb u) : Departed hb (compose u) :=
  h.congr (compose_keeps u).attach_eq (compose_keeps u).setting_eq

/-! ## The composition and the end of the set operation (R12, R101) -/

/-- R101: the pairs that the end of the departed spreader's set operation lets go. -/
def State.endedPair (u : State) (hb : Headblock) (departed : Bool) (p : PairId) : Bool :=
  departed && u.setOpOn hb && bodyPairOf hb p

/-- R104: SET_END of the departed spreader's set operation. -/
def State.endedNotices (u : State) (hb : Headblock) (departed : Bool) : List NoticeBody :=
  if departed then u.setEnd hb .attachLost else []

section
variable {hb : Headblock} {departed : Bool} {u : State} (ok : departed = true → Departed hb u)
include ok

/-- The end of the set operation after the composition. -/
theorem ends_after_compose : LetsGo (u.endedPair hb departed) (u.endedNotices hb departed) (compose u)
      (composeOnAttach hb departed u) ∧ (composeOnAttach hb departed u).order = (compose u).order := by
  have setting := (compose_keeps u).setting_eq
  cases departed
  · exact ⟨(LetsGo.still .silent).congr (fun _ => rfl) rfl, rfl⟩
  · have d := (ok rfl).compose
    obtain ⟨ends, order⟩ := abortSetOp_letsGo (s := compose u) (hb := hb) .attachLost
      (by rw [d.composed_ended, compose_composed, compose_members])
    have pairs : ∀ p, ((compose u).setOpOn hb && bodyPairOf hb p) = u.endedPair hb true p := fun p => by
      rw [State.setOpOn, setting, State.endedPair, Bool.true_and, State.setOpOn]
    have notices : (compose u).setEnd hb .attachLost = u.endedNotices hb true := by
      rw [State.setEnd, setting]
      rfl
    exact ⟨ends.congr pairs notices, order⟩

/-- R10: the member list that a composition forms is the same after it and after the end of the set operation. -/
theorem composeOnAttach_composed : (composeOnAttach hb departed u).composed = u.composed := by
  cases departed
  · exact compose_composed u
  · have d := (ok rfl).compose
    rw [composeOnAttach, if_pos rfl]
    cases op : ((compose u).setting.get hb).op with
    | none => rw [abortSetOp_none op, compose_composed]
    | some op' =>
      rw [abortSetOp_some op, compose_composed]
      refine (composed_congr (s := updateSetting hb (fun _ => ⟨none, 0, none⟩) (compose u)) rfl rfl rfl).trans ?_
      rw [d.composed_ended, compose_composed]

theorem composeOnAttach_members : (composeOnAttach hb departed u).group.members = u.composed := by
  have composed := composeOnAttach_composed ok
  cases departed
  · exact compose_members u
  · rw [composeOnAttach, if_pos rfl] at composed ⊢
    rw [members_abortSetOp, composed, compose_members, ite_self]

theorem composeOnAttach_letsGo_changed {stage : ActiveStage} {head : OrderHead} {members : List OrderMember} {due : Nat}
    (changed : u.composed ≠ u.group.members) (h : u.order = .active stage head members due) :
    LetsGo (fun p => u.orderPair p || u.endedPair hb departed p)
        (heldNotices head (failWhere (fun om => !u.ready om.member.hb) members) .spreaderLost ++ u.endedNotices hb departed)
        u (composeOnAttach hb departed u) ∧
      (composeOnAttach hb departed u).order =
        .faultHeld head (failWhere (fun om => !u.ready om.member.hb) members) .spreaderLost := by
  obtain ⟨held, order⟩ := compose_letsGo_changed changed h
  obtain ⟨ends, same⟩ := ends_after_compose ok
  exact ⟨held.trans ends, same.trans order⟩

theorem composeOnAttach_letsGo_still (still : u.composed = u.group.members ∨ u.order.runs = false) :
    LetsGo (u.endedPair hb departed) (u.endedNotices hb departed) u (composeOnAttach hb departed u) ∧
      (composeOnAttach hb departed u).order = u.order := by
  obtain ⟨held, order⟩ := compose_letsGo_still still
  obtain ⟨ends, same⟩ := ends_after_compose ok
  exact ⟨(held.trans ends).congr (fun p => Bool.false_or _) rfl, same.trans order⟩

end

/-! ## The composition, the end of the set operation and the leave of bypass (R53, R109, R110) -/

/-- R12, R53: how an order in TURNING or SETTLING is held, when it is: its members and the reason. -/
def State.heldOnAttach (u : State) (leaveFirst changed leaves : Bool) : Option (List OrderMember × EndReason) :=
  if leaveFirst then some (u.order.activeMembers, .bypassLeft)
  else if changed then some (failWhere (fun om => !u.ready om.member.hb) u.order.activeMembers, .spreaderLost)
  else if leaves then some (u.order.activeMembers, .bypassLeft)
  else none

/-- What becomes of the order. -/
def OrderRec.onAttach (leaves : Bool) (held : Option (List OrderMember × EndReason)) : OrderRec → OrderRec
  | .active stage head members due => match held with
    | some (members, reason) => .faultHeld head members reason
    | none => .active stage head members due
  | .proposed head due => if leaves then .idle else .proposed head due
  | .idle => .idle
  | .suspended head => .suspended head
  | .faultHeld head members reason => .faultHeld head members reason

/-- What is posted of the order. -/
def OrderRec.noticesOnAttach (leaves : Bool) (held : Option (List OrderMember × EndReason)) : OrderRec → List NoticeBody
  | .active _ head _ _ => match held with
    | some (members, reason) => heldNotices head members reason
    | none => []
  | .proposed head _ => if leaves then [.orderStage .idle head, .orderEnd head .ended .bypassLeft []] else []
  | .idle | .suspended _ | .faultHeld _ _ _ => []

/-- The notices of the order, of the set operation and of bypass, as the steps are taken (log 12, log 14). -/
def noticesInTurn (leaveFirst composedFirst : Bool) (order set bypass : List NoticeBody) : List NoticeBody :=
  if leaveFirst then bypass ++ order ++ set
  else if composedFirst then order ++ set ++ bypass
  else set ++ bypass ++ order

/-- R109: BYPASS_STATE of a leave of bypass by a change of attachment state. -/
def bypassNotices (hb : Headblock) (leaves : Bool) : List NoticeBody :=
  if leaves then [.bypassState false hb (some .attach)] else []

/-- R128: the step that a change of attachment state hands on to the group, the order, the set operation and bypass. -/
def composeLeaving (hb : Headblock) (departed : Bool) (u : State) : State :=
  if departed && u.bypass == some hb then composeAndLeave hb u else composeOnAttach hb departed u

/-- What `composeLeaving` does, by how the order is held, whether bypass is left, and what comes first. -/
structure ComposesLeaving (hb : Headblock) (departed leaves leaveFirst composedFirst : Bool)
    (held : Option (List OrderMember × EndReason)) (u v : State) : Prop where
  order : v.order = u.order.onAttach leaves held
  letsGo : LetsGo (fun p => held.isSome && u.orderPair p || u.endedPair hb departed p)
    (noticesInTurn leaveFirst composedFirst (u.order.noticesOnAttach leaves held) (u.endedNotices hb departed)
      (bypassNotices hb leaves)) u v
  bypass : v.bypass = if leaves then none else u.bypass
  choices : v.choices = if leaves && u.order.runs then u.choices + 1 else u.choices
  members : v.group.members = u.composed

theorem OrderRec.onAttach_of_not_runs {o : OrderRec} (runs : o.runs = false) (leaves : Bool)
    (held : Option (List OrderMember × EndReason)) : o.onAttach leaves held = o.onAttach leaves none ∧
      o.noticesOnAttach leaves held = o.noticesOnAttach leaves none := by
  cases o with
  | active => cases runs
  | idle | proposed | suspended | faultHeld => exact ⟨rfl, rfl⟩

theorem OrderRec.onAttach_still (o : OrderRec) :
    o.onAttach false none = o ∧ o.noticesOnAttach false none = [] := by
  cases o <;> exact ⟨rfl, rfl⟩

/-- R53: an order that does not run, at a leave of bypass. -/
theorem OrderRec.onAttach_leaves {o : OrderRec} (runs : o.runs = false) :
    o.onAttach true none = o.bypassLeft ∧ o.noticesOnAttach true none = o.bypassNotices := by
  cases o with
  | active => cases runs
  | idle | proposed | suspended | faultHeld => exact ⟨rfl, rfl⟩

/-- An order that does not run is not held. -/
theorem ComposesLeaving.of_not_runs {hb : Headblock} {departed leaves leaveFirst composedFirst : Bool} {u v : State}
    (runs : u.order.runs = false) (h : ComposesLeaving hb departed leaves leaveFirst composedFirst none u v)
    (held : Option (List OrderMember × EndReason)) : ComposesLeaving hb departed leaves leaveFirst composedFirst held u v where
  order := by rw [h.order, ← (OrderRec.onAttach_of_not_runs runs leaves held).1]
  letsGo := h.letsGo.congr (fun p => by rw [orderPair_of_not_runs runs, Bool.and_false, Bool.and_false])
    (by rw [← (OrderRec.onAttach_of_not_runs runs leaves held).2])
  bypass := h.bypass
  choices := h.choices
  members := h.members

section
variable {hb : Headblock} {departed : Bool} {u : State} (ok : departed = true → Departed hb u)
include ok

theorem composeOnAttach_composes_changed {stage : ActiveStage} {head : OrderHead} {members : List OrderMember} {due : Nat}
    (changed : u.composed ≠ u.group.members) (h : u.order = .active stage head members due) :
    ComposesLeaving hb departed false false true (some (failWhere (fun om => !u.ready om.member.hb) members, .spreaderLost))
      u (composeOnAttach hb departed u) := by
  have kept := composeOnAttach_keeps u hb departed
  obtain ⟨letsGo, order⟩ := composeOnAttach_letsGo_changed ok changed h
  refine ⟨?_, ?_, kept.bypass_eq, kept.choices_eq, composeOnAttach_members ok⟩
  · rw [h, order]
    rfl
  · rw [h]
    exact letsGo.congr (fun p => rfl) (List.append_nil _).symm

theorem composeOnAttach_composes_still (still : u.composed = u.group.members ∨ u.order.runs = false) :
    ComposesLeaving hb departed false false false none u (composeOnAttach hb departed u) := by
  have kept := composeOnAttach_keeps u hb departed
  obtain ⟨letsGo, order⟩ := composeOnAttach_letsGo_still ok still
  refine ⟨?_, ?_, kept.bypass_eq, kept.choices_eq, composeOnAttach_members ok⟩
  · rw [order, u.order.onAttach_still.1]
  · refine letsGo.congr (fun p => (Bool.false_or _).symm) ?_
    rw [u.order.onAttach_still.2, noticesInTurn, bypassNotices]
    simp

end

section
variable {hb : Headblock} {u : State} (ok : Departed hb u) (on : u.bypass = some hb)
include ok on

/-- R110: bypass is left first. -/
theorem leaveFirst_composes {stage : ActiveStage} {head : OrderHead} {members : List OrderMember} {due : Nat}
    (h : u.order = .active stage head members due) (composedFirst : Bool) :
    ComposesLeaving hb true true true composedFirst (some (members, .bypassLeft)) u
      (composeOnAttach hb true (leaveBypass .attach (choose u))) := by
  obtain ⟨left, order, off, choices⟩ := leaveBypass_letsGo (s := choose u) on .attach
  have kept := leaveBypass_keeps (choose u) .attach
  rw [show (choose u).order = _ from h] at order left
  have first : LetsGo u.orderPair (.bypassState false hb (some .attach) :: heldNotices head members .bypassLeft) u
      (leaveBypass .attach (choose u)) := ⟨left.pair, left.posts.notices, left.posts.time⟩
  have d : Departed hb (leaveBypass .attach (choose u)) := ok.congr kept.attach_eq kept.setting_eq
  obtain ⟨ends, same⟩ := composeOnAttach_letsGo_still (departed := true) (fun _ => d) (.inr (by rw [order]; rfl))
  have k := composeOnAttach_keeps (leaveBypass .attach (choose u)) hb true
  have pairs : ∀ p, (leaveBypass .attach (choose u)).endedPair hb true p = u.endedPair hb true p := fun p => by
    rw [State.endedPair, State.setOpOn, kept.setting_eq]
    rfl
  have notices : (leaveBypass .attach (choose u)).endedNotices hb true = u.endedNotices hb true := by
    rw [State.endedNotices, State.setEnd, kept.setting_eq]
    rfl
  refine ⟨?_, (first.trans ends).congr (fun p => by rw [pairs]; rfl) (by rw [notices, h]; rfl), ?_, ?_, ?_⟩
  · rw [same, order, h]
    rfl
  · rw [k.bypass_eq, off]
    rfl
  · rw [k.choices_eq, choices, h]
    rfl
  · rw [composeOnAttach_members fun _ => d]
    exact composed_congr kept.mode_eq kept.attach_eq kept.setting_eq

/-- R110: the composition comes first and holds the order. -/
theorem leaveLast_composes_changed {stage : ActiveStage} {head : OrderHead} {members : List OrderMember} {due : Nat}
    (changed : u.composed ≠ u.group.members) (h : u.order = .active stage head members due) :
    ComposesLeaving hb true true false true (some (failWhere (fun om => !u.ready om.member.hb) members, .spreaderLost)) u
      (leaveBypass .attach (composeOnAttach hb true (choose u))) := by
  have d : Departed hb (choose u) := ok.congr rfl rfl
  have k := composeOnAttach_keeps (choose u) hb true
  obtain ⟨ends, held⟩ := composeOnAttach_letsGo_changed (u := choose u) (departed := true) (fun _ => d) changed h
  obtain ⟨left, order, off, choices⟩ := leaveBypass_letsGo (s := composeOnAttach hb true (choose u)) (k.bypass_eq.trans on)
    .attach
  rw [held] at order left
  have unheld : ∀ p, (composeOnAttach hb true (choose u)).orderPair p = false :=
    orderPair_of_not_runs (by rw [held]; rfl)
  have both := ends.trans left
  refine ⟨?_, ⟨fun p => ?_, both.posts.notices.trans ?_, both.posts.time⟩, off, ?_, ?_⟩
  · rw [order, h]
    rfl
  · rw [both.pair, unheld, Bool.or_false]
    rfl
  · rw [h]
    rfl
  · rw [choices, k.choices_eq, h]
    rfl
  · rw [(leaveBypass_keeps _ _).memberList_eq, composeOnAttach_members fun _ => d]
    rfl

/-- R110: the composition comes first and finds the list as it was. -/
theorem leaveLast_composes_same {stage : ActiveStage} {head : OrderHead} {members : List OrderMember} {due : Nat}
    (same : u.composed = u.group.members) (h : u.order = .active stage head members due) :
    ComposesLeaving hb true true false false (some (members, .bypassLeft)) u
      (leaveBypass .attach (composeOnAttach hb true (choose u))) := by
  have d : Departed hb (choose u) := ok.congr rfl rfl
  have k := composeOnAttach_keeps (choose u) hb true
  obtain ⟨ends, held⟩ := composeOnAttach_letsGo_still (u := choose u) (departed := true) (fun _ => d) (.inl same)
  obtain ⟨left, order, off, choices⟩ := leaveBypass_letsGo (s := composeOnAttach hb true (choose u)) (k.bypass_eq.trans on)
    .attach
  rw [held, show (choose u).order = _ from h] at order
  rw [held, show (choose u).order = _ from h] at left
  have pairs : ∀ p, (composeOnAttach hb true (choose u)).orderPair p = u.orderPair p := fun p => by
    rw [State.orderPair, held]
    rfl
  have both := ends.trans left
  refine ⟨?_, ⟨fun p => ?_, both.posts.notices.trans ?_, both.posts.time⟩, off, ?_, ?_⟩
  · rw [order, h]
    rfl
  · rw [both.pair, pairs, Bool.or_comm]
    rfl
  · rw [h]
    exact congrArg (fun bodies => (postAll bodies u).notices) (List.append_assoc _ [_] _).symm
  · rw [choices, k.choices_eq, h]
    rfl
  · rw [(leaveBypass_keeps _ _).memberList_eq, composeOnAttach_members fun _ => d]
    rfl

/-- R109: with no order running nothing is chosen. -/
theorem leaves_composes_of_not_runs (runs : u.order.runs = false) : ComposesLeaving hb true true false false none u
      (leaveBypass .attach (composeOnAttach hb true u)) := by
  have k := composeOnAttach_keeps u hb true
  obtain ⟨ends, held⟩ := composeOnAttach_letsGo_still (departed := true) (fun _ => ok) (.inr runs)
  obtain ⟨left, order, off, choices⟩ := leaveBypass_letsGo (s := composeOnAttach hb true u) (k.bypass_eq.trans on) .attach
  have unheld : ∀ p, (composeOnAttach hb true u).orderPair p = false := orderPair_of_not_runs (by rw [held]; exact runs)
  obtain ⟨leavesOrder, leavesNotices⟩ := OrderRec.onAttach_leaves runs
  rw [held] at order left
  refine ⟨order.trans leavesOrder.symm, (ends.trans left).congr (fun p => ?_) ?_, off, ?_, ?_⟩
  · rw [unheld, Bool.or_false]
    rfl
  · rw [leavesNotices, noticesInTurn, bypassNotices]
    simp
  · rw [choices, k.choices_eq, runs]
    rfl
  · rw [(leaveBypass_keeps _ _).memberList_eq, composeOnAttach_members fun _ => ok]

end

/-- R110: bypass is left by the change. -/
def State.leavesBypass (u : State) (hb : Headblock) (departed : Bool) : Bool := departed && u.bypass == some hb

/-- R110: bypass is left before the composition. -/
def State.leavesFirst (u : State) (hb : Headblock) (departed : Bool) : Bool :=
  u.leavesBypass hb departed && u.order.runs && Config.leaveFirst u.choices

theorem composeLeaving_composes {hb : Headblock} {departed : Bool} {u : State} (ok : departed = true → Departed hb u) :
    ComposesLeaving hb departed (u.leavesBypass hb departed) (u.leavesFirst hb departed)
      (u.order.runs && decide (u.composed ≠ u.group.members))
      (u.heldOnAttach (u.leavesFirst hb departed) (decide (u.composed ≠ u.group.members)) (u.leavesBypass hb departed)) u
      (composeLeaving hb departed u) := by
  cases leaves : u.leavesBypass hb departed with
  | false =>
    have first : u.leavesFirst hb departed = false := by rw [State.leavesFirst, leaves]; rfl
    rw [first, composeLeaving, if_neg (by rw [← State.leavesBypass, leaves]; simp)]
    cases runs : u.order.runs with
    | false => exact (composeOnAttach_composes_still ok (.inr runs)).of_not_runs runs _
    | true =>
      obtain ⟨stage, head, members, due, active⟩ := runs_eq_true_iff.1 runs
      by_cases changed : u.composed ≠ u.group.members
      · have composes := composeOnAttach_composes_changed ok changed active
        rwa [decide_eq_true changed, State.heldOnAttach, active]
      · have composes := composeOnAttach_composes_still ok (.inl (not_not.1 changed))
        rwa [decide_eq_false changed, State.heldOnAttach]
  | true =>
    have both : departed = true ∧ u.bypass = some hb := by simpa [State.leavesBypass] using leaves
    obtain ⟨rfl, on⟩ := both
    rw [State.leavesFirst, leaves, composeLeaving, if_pos (by rw [← State.leavesBypass, leaves]), composeAndLeave]
    cases runs : u.order.runs with
    | false => exact (leaves_composes_of_not_runs (ok rfl) on runs).of_not_runs runs _
    | true =>
      obtain ⟨stage, head, members, due, active⟩ := runs_eq_true_iff.1 runs
      rw [if_pos rfl]
      cases first : Config.leaveFirst u.choices with
      | true =>
        have composes := leaveFirst_composes (ok rfl) on active (true && decide (u.composed ≠ u.group.members))
        rw [State.heldOnAttach, active]
        exact composes
      | false =>
        by_cases changed : u.composed ≠ u.group.members
        · have composes := leaveLast_composes_changed (ok rfl) on changed active
          rw [decide_eq_true changed, State.heldOnAttach, active]
          exact composes
        · have composes := leaveLast_composes_same (ok rfl) on (not_not.1 changed) active
          rw [decide_eq_false changed, State.heldOnAttach, active]
          exact composes

theorem composeLeaving_keeps (hb : Headblock) (departed : Bool) (u : State) :
    keeps [.bypass, .setting, .memberList, .order, .pairs, .notices] u (composeLeaving hb departed u) := by
  unfold composeLeaving
  split
  · exact composeAndLeave_keeps u hb
  · exact (composeOnAttach_keeps u hb departed).mono (by decide)

theorem leaveBypass_composed (cause : LeaveCause) (u : State) : (leaveBypass cause u).composed = u.composed :=
  have k := leaveBypass_keeps u cause
  composed_congr k.mode_eq k.attach_eq k.setting_eq

theorem composeLeaving_composed {hb : Headblock} {departed : Bool} {u : State} (ok : departed = true → Departed hb u) :
    (composeLeaving hb departed u).composed = u.composed := by
  unfold composeLeaving
  split
  · next leaves =>
    have d : Departed hb u := ok (Bool.and_eq_true _ _ ▸ leaves).1
    have chosen : (choose u).composed = u.composed := rfl
    have left := leaveBypass_keeps (choose u) .attach
    unfold composeAndLeave
    split
    · split
      · rw [composeOnAttach_composed fun _ => (d.congr (v := leaveBypass .attach (choose u)) left.attach_eq left.setting_eq),
          leaveBypass_composed, chosen]
      · rw [leaveBypass_composed, composeOnAttach_composed fun _ => d.congr (v := choose u) rfl rfl, chosen]
    · rw [leaveBypass_composed, composeOnAttach_composed fun _ => d]
  · exact composeOnAttach_composed ok

/-- R101: the set operation of the departed spreader is gone. -/
theorem setting_composeOnAttach (hb h : Headblock) (departed : Bool) (u : State) :
    (composeOnAttach hb departed u).setting.get h =
      if departed = true ∧ h = hb ∧ (u.setting.get hb).op ≠ none then ⟨none, 0, none⟩ else u.setting.get h := by
  cases departed
  · simp [composeOnAttach, (compose_keeps u).setting_eq]
  · rw [composeOnAttach, if_pos rfl, setting_abortSetOp, (compose_keeps u).setting_eq]
    simp

theorem setting_composeLeaving (hb h : Headblock) (departed : Bool) (u : State) :
    (composeLeaving hb departed u).setting.get h =
      if departed = true ∧ h = hb ∧ (u.setting.get hb).op ≠ none then ⟨none, 0, none⟩ else u.setting.get h := by
  unfold composeLeaving
  split
  · next leaves =>
    have gone : departed = true := (Bool.and_eq_true _ _ ▸ leaves).1
    have chosen : (choose u).setting = u.setting := rfl
    subst gone
    unfold composeAndLeave
    split
    · split
      · rw [setting_composeOnAttach, (leaveBypass_keeps _ _).setting_eq, chosen]
      · rw [(leaveBypass_keeps _ _).setting_eq, setting_composeOnAttach, chosen]
    · rw [(leaveBypass_keeps _ _).setting_eq, setting_composeOnAttach]
  · exact setting_composeOnAttach hb h departed u

end Sys2Proof.Machine
end

section
/-! SUPPORT. A change of attachment state, step by step, and the statement about it. -/

namespace Sys2Proof.Machine

-- One theorem at a time: proofs that wait for one another hold a thread each.
set_option Elab.async false

/-! ## Supply off (R72, R118, R137) -/

theorem bus_supplyOff (hb h : Headblock) (s : State) : (supplyOff hb s).bus.get h =
    if h = hb then { s.bus.get hb with
      nodes := Vector.ofFn fun _ => none, urgent := []
      flight := (s.bus.get hb).flight.map fun f => { f with discard := true } } else s.bus.get h := by
  rw [supplyOff, supplyOffPairs, (dropAwaiting_keeps _ _).traffic_eq, bus_updateBus]

theorem awaitingOff_supplyOff (hb : Headblock) (s : State) :
    (supplyOff hb s).awaitingOff = s.awaitingOff.filter fun p => decide (p.hb ≠ hb) := by
  rw [supplyOff, supplyOffPairs, dropAwaiting_awaitingOff]
  refine List.filter_congr fun p _ => ?_
  rw [Bool.eq_iff_iff]
  simp

/-- R73: what a report of every coil off makes of the trip unit, when the awaiting-off set has become empty. -/
def State.reported (s : State) (rest : List PairId) : TripState :=
  if s.awaitingOff ≠ [] ∧ rest = [] then s.trip.state.confirmed else s.trip.state

/-- R83: the report, when there is one. -/
def State.reportNotices (s : State) (rest : List PairId) : List NoticeBody :=
  if s.reported rest = s.trip.state then [] else
    [.holdState (s.reported rest) s.trip.pending s.trip.chainClosed s.trip.hold]

theorem reportConfirmedOff_posts (s : State) : Posts
    (if s.trip.state.confirmed = s.trip.state then [] else
      [.holdState s.trip.state.confirmed s.trip.pending s.trip.chainClosed s.trip.hold]) s (reportConfirmedOff s) := by
  cases state : s.trip.state with
  | holding cause =>
    rw [reportConfirmedOff_of_holding state, if_neg (by simp [TripState.confirmed])]
    exact .of_post _ _
  | clear | held =>
    rw [if_pos (by rfl)]
    simp only [reportConfirmedOff, state]
    exact .silent

theorem dropAwaiting_posts (gone : PairId → Bool) (s : State) :
    Posts (s.reportNotices (s.awaitingOff.filter fun p => !gone p)) s (dropAwaiting gone s) := by
  unfold dropAwaiting State.reportNotices State.reported
  simp only [Bool.and_eq_true, Bool.not_eq_true', List.isEmpty_eq_false_iff, List.isEmpty_iff]
  by_cases empties : s.awaitingOff ≠ [] ∧ (s.awaitingOff.filter fun p => !gone p) = []
  · simp only [if_pos empties, if_pos (And.intro empties.2 empties.1)]
    have report := reportConfirmedOff_posts { s with awaitingOff := s.awaitingOff.filter fun p => !gone p }
    exact ⟨report.notices, report.time⟩
  · simp only [if_neg empties, if_neg (mt And.symm empties), if_true]
    exact .silent

theorem trip_supplyOff (hb : Headblock) (s : State) : (supplyOff hb s).trip =
    { s.trip with state := s.reported (s.awaitingOff.filter fun p => decide (p.hb ≠ hb)) } := by
  rw [← awaitingOff_supplyOff, supplyOff, supplyOffPairs, dropAwaiting_awaitingOff, dropAwaiting_trip]
  rfl

theorem supplyOff_posts (hb : Headblock) (s : State) :
    Posts (s.reportNotices (s.awaitingOff.filter fun p => decide (p.hb ≠ hb))) s (supplyOff hb s) := by
  have drop := dropAwaiting_posts (fun p => p.hb == hb) (updateBus hb (fun b =>
    { b with nodes := Vector.ofFn fun _ => none, urgent := []
             flight := b.flight.map fun f => { f with discard := true } }) s)
  rw [← awaitingOff_supplyOff, supplyOff, supplyOffPairs, dropAwaiting_awaitingOff]
  exact ⟨drop.notices, drop.time⟩

/-! ## The steps of a change (R128) -/

section
variable (hb : Headblock) (f : Attach → Attach) (further : List NoticeBody) (s : State)

/-- The state entered. -/
def enteredState : AttachState := (f (s.attach.get hb)).state

/-- The supply goes off by the change. -/
def losesSupply : Bool := (s.attachState hb).supplyOn && !(enteredState hb f s).supplyOn

/-- The spreader leaves ARMED by the change. -/
def departsArmed : Bool := s.attachState hb == .armed && enteredState hb f s != .armed

/-- The manager's record rewritten, and the notices of the change given. -/
def attachNoted : State :=
  postAll ((updateAttach hb f s).attachNotice hb (some (s.attachState hb)) :: further) (updateAttach hb f s)

/-- The supply switched off where the state asks for it. -/
def attachSupplied : State :=
  if losesSupply hb f s then supplyOff hb (attachNoted hb f further s) else attachNoted hb f further s

/-- The setting and the members follow the change. -/
def attachDerived : State :=
  rederiveHead hb (settingOnAttach hb (s.attachState hb) (enteredState hb f s) (attachSupplied hb f further s))

/-- The group, the order, the set operation and bypass follow the change. -/
def attachComposed : State := composeLeaving hb (departsArmed hb f s) (attachDerived hb f further s)

theorem attachState_updateAttach : (updateAttach hb f s).attachState hb = enteredState hb f s := by
  rw [State.attachState, attach_updateAttach, if_pos rfl]
  rfl

theorem attachSupplied_keeps :
    keeps [.attach, .notices, .nodes, .traffic, .awaitingOff, .trip] s (attachSupplied hb f further s) := by
  have noted : keeps [.attach, .notices] s (attachNoted hb f further s) :=
    (updateAttach_keeps s hb f).then (postAll_keeps _ _)
  unfold attachSupplied
  split
  · exact (noted.mono (by decide)).trans ((supplyOff_keeps _ _).mono (by decide))
  · exact noted.mono (by decide)

theorem attachSupplied_attach : (attachSupplied hb f further s).attach = (updateAttach hb f s).attach := by
  unfold attachSupplied
  split
  · exact (supplyOff_keeps _ _).attach_eq
  · rfl

theorem attachDerived_keeps : keeps [.setting, .members] (attachSupplied hb f further s) (attachDerived hb f further s) := by
  unfold attachDerived rederiveHead
  generalize attachSupplied hb f further s = v
  exact ((settingOnAttach_keeps v hb _ _).mono (by decide)).trans ((rederive_keeps _ _).mono (by decide))

theorem changeAttach_eq : changeAttach hb f further s =
    if (enteredState hb f s).inService then attachComposed hb f further s
    else endTransfer hb .aborted (attachComposed hb f further s) := by
  have state : (attachSupplied hb f further s).attachState hb = enteredState hb f s := by
    rw [State.attachState, attachSupplied_attach, ← State.attachState, attachState_updateAttach]
  have supplied : changeAttach hb f further s = handOnAttach hb (s.attachState hb) (attachSupplied hb f further s) := by
    rw [attachSupplied, losesSupply, ← attachState_updateAttach]
    rfl
  rw [supplied, handOnAttach, state]
  rfl

/-! ## What the change of supply does -/

/-- R73: the awaiting-off set after the change of supply. -/
def awaitingAfter : List PairId :=
  if losesSupply hb f s then s.awaitingOff.filter fun p => decide (p.hb ≠ hb) else s.awaitingOff

theorem reported_self : s.reported s.awaitingOff = s.trip.state :=
  if_neg fun h => h.1 h.2

theorem attachSupplied_bus (h : Headblock) : (attachSupplied hb f further s).bus.get h =
    if losesSupply hb f s = true ∧ h = hb then { s.bus.get hb with
      nodes := Vector.ofFn fun _ => none, urgent := []
      flight := (s.bus.get hb).flight.map fun f => { f with discard := true } } else s.bus.get h := by
  unfold attachSupplied
  cases losesSupply hb f s with
  | true => rw [if_pos rfl, bus_supplyOff]; simp only [true_and]; rfl
  | false => simp; rfl

theorem attachSupplied_awaitingOff : (attachSupplied hb f further s).awaitingOff = awaitingAfter hb f s := by
  unfold attachSupplied awaitingAfter
  cases losesSupply hb f s with
  | true => rw [if_pos rfl, if_pos rfl, awaitingOff_supplyOff]; rfl
  | false => rfl

theorem attachSupplied_trip : (attachSupplied hb f further s).trip =
    { s.trip with state := s.reported (awaitingAfter hb f s) } := by
  unfold attachSupplied awaitingAfter
  cases losesSupply hb f s with
  | true => rw [if_pos rfl, if_pos rfl, trip_supplyOff]; rfl
  | false => exact congrArg (fun state => { s.trip with state := state }) (reported_self s).symm

theorem attachSupplied_posts : Posts (.attachState hb (enteredState hb f s) (some (s.attachState hb))
      ((f (s.attach.get hb)).descriptor.map Descriptor.serial) :: further ++ s.reportNotices (awaitingAfter hb f s)) s
    (attachSupplied hb f further s) := by
  have notice : (updateAttach hb f s).attachNotice hb (some (s.attachState hb)) = .attachState hb (enteredState hb f s)
      (some (s.attachState hb)) ((f (s.attach.get hb)).descriptor.map Descriptor.serial) := by
    rw [State.attachNotice, attachState_updateAttach, attach_updateAttach, if_pos rfl]
  have noted : Posts (.attachState hb (enteredState hb f s) (some (s.attachState hb))
      ((f (s.attach.get hb)).descriptor.map Descriptor.serial) :: further) s (attachNoted hb f further s) := by
    rw [attachNoted, notice]
    exact .of_postAll _ _
  refine noted.trans ?_
  unfold attachSupplied awaitingAfter
  cases losesSupply hb f s with
  | true => exact supplyOff_posts hb (attachNoted hb f further s)
  | false =>
    rw [State.reportNotices, if_pos (by simp [reported_self])]
    exact .silent

/-! ## What follows from it: setting and members (R4, R92) -/

theorem attachDerived_setting (h : Headblock) : (attachDerived hb f further s).setting.get h =
    if h = hb ∧ enteredState hb f s = .armed ∧ s.attachState hb ≠ .armed then
      ⟨(attachSupplied hb f further s).derivedSetting hb, 0, (s.setting.get hb).op⟩
    else if h = hb ∧ departsArmed hb f s = true then ⟨none, 0, (s.setting.get hb).op⟩
    else s.setting.get h := by
  have kept := (attachSupplied_keeps hb f further s).setting_eq
  have departs : departsArmed hb f s = true ↔ s.attachState hb = .armed ∧ enteredState hb f s ≠ .armed := by
    simp [departsArmed]
  change (settingOnAttach hb (s.attachState hb) (enteredState hb f s) (attachSupplied hb f further s)).setting.get h = _
  simp only [departs]
  unfold settingOnAttach
  by_cases armed : enteredState hb f s = .armed
  · by_cases was : s.attachState hb = .armed
    · simp [armed, was, kept]
    · simp [armed, was, kept]
  · by_cases was : s.attachState hb = .armed
    · simp [armed, was, kept]
    · simp [armed, was, kept]

theorem attachDerived_op (h : Headblock) : ((attachDerived hb f further s).setting.get h).op = (s.setting.get h).op := by
  rw [attachDerived_setting]
  split
  · next is => rw [is.1]
  · split
    · next is => rw [is.1]
    · rfl

theorem attachDerived_departed (departs : departsArmed hb f s = true) : Departed hb (attachDerived hb f further s) := by
  have isArmed : s.attachState hb = .armed ∧ enteredState hb f s ≠ .armed := by simpa [departsArmed] using departs
  constructor
  · rw [(attachDerived_keeps hb f further s).attach_eq, attachSupplied_attach, ← State.attachState, attachState_updateAttach]
    exact isArmed.2
  · rw [attachDerived_setting, if_neg (fun h => isArmed.2 h.2.1), if_pos ⟨rfl, departs⟩]

theorem attachDerived_member (m : Member) : (attachDerived hb f further s).member m =
    if m.hb = hb then (attachDerived hb f further s).derivedMember m else s.member m := by
  have derived := (attachDerived_keeps hb f further s).derivedMember m
  have before := (settingOnAttach_keeps (attachSupplied hb f further s) hb (s.attachState hb) (enteredState hb f s))
  rw [derived, ← before.derivedMember m, ← (attachSupplied_keeps hb f further s).member_eq, ← before.member_eq]
  change (updateMembers _ _).member m = _
  rw [member_updateMembers]
  simp only [beq_iff_eq]

/-! ## The whole change -/

theorem attachComposed_keeps : keeps [.bypass, .setting, .memberList, .order, .pairs, .notices]
    (attachDerived hb f further s) (attachComposed hb f further s) := composeLeaving_keeps _ _ _

theorem bus_endTransfer (status : TransferEnd) (h : Headblock) (v : State) : (endTransfer hb status v).bus.get h =
    if h = hb then { v.bus.get hb with transfer := none } else v.bus.get h := by
  unfold endTransfer
  cases transfer : (v.bus.get hb).transfer with
  | none =>
    have same : ({ v.bus.get hb with transfer := none } : Bus) = v.bus.get hb := by rw [← transfer]
    rw [same]
    by_cases is : h = hb
    · rw [if_pos is, is]
    · rw [if_neg is]
  | some d => exact bus_updateBus hb h (fun b => { b with transfer := none }) v

theorem endTransfer_posts (status : TransferEnd) (v : State) : Posts (match (v.bus.get hb).transfer with
      | some d => [.diagResult hb d status]
      | none => []) v (endTransfer hb status v) := by
  unfold endTransfer
  cases (v.bus.get hb).transfer with
  | none => exact .silent
  | some d => exact .of_post _ _

theorem changeAttach_after : keeps [.traffic, .notices] (attachComposed hb f further s) (changeAttach hb f further s) := by
  rw [changeAttach_eq]
  split
  · exact keeps.refl _ _
  · exact endTransfer_keeps _ _ _

theorem attachComposed_bus : (attachComposed hb f further s).bus = (attachSupplied hb f further s).bus :=
  (attachComposed_keeps hb f further s).traffic_eq.trans (attachDerived_keeps hb f further s).traffic_eq

theorem changeAttach_bus (h : Headblock) : (changeAttach hb f further s).bus.get h =
    if h = hb ∧ (enteredState hb f s).inService = false then
      { (attachSupplied hb f further s).bus.get hb with transfer := none }
    else (attachSupplied hb f further s).bus.get h := by
  rw [changeAttach_eq]
  cases (enteredState hb f s).inService with
  | true => simp [attachComposed_bus]
  | false => simp [bus_endTransfer, attachComposed_bus]

theorem changeAttach_transfer_posts : Posts (match (s.bus.get hb).transfer with
      | some d => if (enteredState hb f s).inService then [] else [.diagResult hb d .aborted]
      | none => []) (attachComposed hb f further s) (changeAttach hb f further s) := by
  have transfer : ((attachComposed hb f further s).bus.get hb).transfer = (s.bus.get hb).transfer := by
    rw [attachComposed_bus, attachSupplied_bus]
    split <;> rfl
  rw [changeAttach_eq]
  cases (enteredState hb f s).inService with
  | true => cases (s.bus.get hb).transfer <;> exact .silent
  | false =>
    have ended := endTransfer_posts hb .aborted (attachComposed hb f further s)
    rw [transfer] at ended
    exact ended

/-- The steps after the change of supply leave node tables, awaiting-off set and trip unit. -/
theorem changeAttach_supplied : keeps [.setting, .members, .bypass, .memberList, .order, .pairs, .notices, .traffic]
    (attachSupplied hb f further s) (changeAttach hb f further s) :=
  ((attachDerived_keeps hb f further s).mono (by decide)).trans <|
    ((attachComposed_keeps hb f further s).mono (by decide)).trans ((changeAttach_after hb f further s).mono (by decide))

theorem changeAttach_derived : keeps [.bypass, .setting, .memberList, .order, .pairs, .notices, .traffic]
    (attachDerived hb f further s) (changeAttach hb f further s) :=
  ((attachComposed_keeps hb f further s).mono (by decide)).trans ((changeAttach_after hb f further s).mono (by decide))

theorem keeps.derivedSetting {l : List Field} {s t : State} (h : keeps l s t) (hb : Headblock)
    (attach : Field.attach ∉ l := by decide) (nodes : Field.nodes ∉ l := by decide) :
    t.derivedSetting hb = s.derivedSetting hb := by
  rw [State.derivedSetting, State.derivedSetting, State.bodyInput, State.bodyInput, onlineInput_congr (h .nodes nodes _ _),
    h.attach_eq attach]

theorem changeAttach_setting (h : Headblock) : (changeAttach hb f further s).setting.get h =
    if h = hb ∧ enteredState hb f s = .armed ∧ s.attachState hb ≠ .armed then
      ⟨(changeAttach hb f further s).derivedSetting hb, 0, (s.setting.get hb).op⟩
    else if h = hb ∧ departsArmed hb f s = true then ⟨none, 0, none⟩
    else s.setting.get h := by
  rw [(changeAttach_supplied hb f further s).derivedSetting, (changeAttach_after hb f further s).setting_eq, attachComposed,
    setting_composeLeaving, attachDerived_setting, attachDerived_setting]
  have departs : departsArmed hb f s = true ↔ s.attachState hb = .armed ∧ enteredState hb f s ≠ .armed := by
    simp [departsArmed]
  by_cases is : h = hb
  · subst is
    by_cases armed : enteredState h f s = .armed
    · simp [departs, armed]
    · by_cases op : (s.setting.get h).op = none <;> by_cases was : s.attachState h = .armed <;>
        simp [departs, armed, op, was]
  · simp [is]

theorem changeAttach_member (m : Member) : (changeAttach hb f further s).member m =
    if m.hb = hb then (changeAttach hb f further s).derivedMember m else s.member m := by
  have k := changeAttach_derived hb f further s
  rw [k.member_eq, k.derivedMember, attachDerived_member]

/-- What becomes of the order, its pairs and bypass. -/
theorem attachComposed_composes : ComposesLeaving hb (departsArmed hb f s)
    ((attachDerived hb f further s).leavesBypass hb (departsArmed hb f s))
    ((attachDerived hb f further s).leavesFirst hb (departsArmed hb f s))
    ((attachDerived hb f further s).order.runs &&
      decide ((attachDerived hb f further s).composed ≠ (attachDerived hb f further s).group.members))
    ((attachDerived hb f further s).heldOnAttach ((attachDerived hb f further s).leavesFirst hb (departsArmed hb f s))
      (decide ((attachDerived hb f further s).composed ≠ (attachDerived hb f further s).group.members))
      ((attachDerived hb f further s).leavesBypass hb (departsArmed hb f s)))
    (attachDerived hb f further s) (attachComposed hb f further s) :=
  composeLeaving_composes (attachDerived_departed hb f further s)

/-- R10: the composition stands after the change. -/
theorem compose_changeAttach : compose (changeAttach hb f further s) = changeAttach hb f further s := by
  have k := changeAttach_after hb f further s
  refine compose_same ?_
  rw [composed_congr k.mode_eq k.attach_eq k.setting_eq, k.memberList_eq, (attachComposed_composes hb f further s).members]
  exact composeLeaving_composed (attachDerived_departed hb f further s)

theorem changeAttach_bus_own : (changeAttach hb f further s).bus.get hb =
    { (if losesSupply hb f s then { s.bus.get hb with
        nodes := Vector.ofFn fun _ => none, urgent := []
        flight := (s.bus.get hb).flight.map fun f => { f with discard := true } } else s.bus.get hb) with
      transfer := if (enteredState hb f s).inService then (s.bus.get hb).transfer else none } := by
  rw [changeAttach_bus, attachSupplied_bus]
  simp only [true_and, and_true]
  cases losesSupply hb f s <;> cases (enteredState hb f s).inService <;> rfl

theorem changeAttach_bus_other {h : Headblock} (other : h ≠ hb) : (changeAttach hb f further s).bus.get h = s.bus.get h := by
  rw [changeAttach_bus, if_neg (fun k => other k.1), attachSupplied_bus, if_neg (fun k => other k.2)]

/-- R11: a spreader is ready after the change as it was when the composition was made. -/
theorem changeAttach_ready (h : Headblock) :
    (changeAttach hb f further s).ready h = (attachDerived hb f further s).ready h := by
  have k := changeAttach_derived hb f further s
  rw [State.ready, State.ready, State.attachState, State.attachState, State.setOpOn, State.setOpOn, k.attach_eq,
    (changeAttach_after hb f further s).setting_eq, attachComposed, setting_composeLeaving]
  split
  · next gone =>
    have unarmed : (((attachDerived hb f further s).attach.get h).state == .armed) = false := by
      rw [gone.2.1, beq_eq_false_iff_ne]
      exact (attachDerived_departed hb f further s gone.1).unarmed
    rw [unarmed]
    rfl
  · rfl

end

/-! ## The statement -/

/-- Settles O24: each part of the state by the step that changes it (`attachSupplied`, `attachDerived`, `attachComposed`),
and the order, its pairs and the notices by `ComposesLeaving`. -/
theorem attachmentChange : Obligations.AttachmentChange := by
  intro hb f further s t left entered off departs leaves changed meets leaveFirst held orderEnds setEnds bypassEnds
  have after := changeAttach_after hb f further s
  have supplied := changeAttach_supplied hb f further s
  have before := attachSupplied_keeps hb f further s
  have derived := attachDerived_keeps hb f further s
  have composes := attachComposed_composes hb f further s
  have offIs : losesSupply hb f s = true ↔ off := by
    simp [losesSupply, off, left, entered, enteredState, State.attachState]
  have departsIs : departsArmed hb f s = true ↔ departs := by
    simp [departsArmed, departs, left, entered, enteredState, State.attachState]
  have servedIs : (enteredState hb f s).inService = true ↔ entered = .identified ∨ entered = .armed := by
    rw [inService_eq_decide, decide_eq_true_eq]
    rfl
  have order : (attachDerived hb f further s).order = s.order := derived.order_eq.trans before.order_eq
  have bypass : (attachDerived hb f further s).bypass = s.bypass := derived.bypass_eq.trans before.bypass_eq
  have choices : (attachDerived hb f further s).choices = s.choices := derived.choices_eq.trans before.choices_eq
  have pair : ∀ p, (attachDerived hb f further s).pair p = s.pair p := fun p => (derived.pair_eq p).trans (before.pair_eq p)
  have own := changeAttach_bus_own hb f further s
  have awaiting : t.awaitingOff = awaitingAfter hb f s := supplied.awaitingOff_eq.trans (attachSupplied_awaitingOff hb f further s)
  have trip : t.trip = _ := supplied.trip_eq.trans (attachSupplied_trip hb f further s)
  have leavesIs : (attachDerived hb f further s).leavesBypass hb (departsArmed hb f s) = decide leaves := by
    rw [Bool.eq_iff_iff, State.leavesBypass, Bool.and_eq_true, departsIs, bypass, beq_iff_eq, decide_eq_true_eq]
  have firstIs : (attachDerived hb f further s).leavesFirst hb (departsArmed hb f s) = decide leaveFirst := by
    rw [Bool.eq_iff_iff, State.leavesFirst, leavesIs, order, choices, Bool.and_eq_true, Bool.and_eq_true, decide_eq_true_eq,
      decide_eq_true_eq, and_assoc]
  have changedIs : ((attachDerived hb f further s).composed ≠ (attachDerived hb f further s).group.members) ↔ changed := by
    rw [← composes.members, ← after.memberList_eq, derived.memberList_eq, before.memberList_eq]
  have readyIs : ∀ h, (attachDerived hb f further s).ready h = true ↔ meets h := fun h => by
    rw [← changeAttach_ready, State.ready]
    simp [State.setOpOn, State.attachState, meets, t, and_assoc, Option.isSome_iff_ne_none]
  have heldIs : (attachDerived hb f further s).heldOnAttach (decide leaveFirst)
      (decide ((attachDerived hb f further s).composed ≠ (attachDerived hb f further s).group.members)) (decide leaves) =
      held := by
    unfold State.heldOnAttach
    simp only [decide_eq_true_eq, changedIs, order, failWhere, Bool.not_eq_true', ← Bool.not_eq_true, readyIs, ite_not]
    rfl
  rw [leavesIs, firstIs, heldIs] at composes
  refine ⟨fun h => ?attach, fun n => ?nodes, ?urgent, ?flight, ?probe, ?transfer, ?awaiting, ?trip, ?setting,
    changeAttach_member hb f further s, compose_changeAttach hb f further s, ?order, fun p => ?pair, ?bypass, ?choices,
    ?notices, fun h other => ⟨changeAttach_bus_other hb f further s other, ?otherSetting⟩, changeAttach_keeps s hb f further⟩
  case attach => rw [show t.attach = _ from attach_changeAttach hb f further s, attach_updateAttach]
  case nodes =>
    rw [State.node, own]
    simp only [offIs]
    split
    · exact get_ofFn _ n
    · rfl
  case urgent => rw [own]; simp only [offIs]; split <;> rfl
  case flight => rw [own]; simp only [offIs]; split <;> rfl
  case probe => rw [own]; split <;> rfl
  case transfer => rw [own]; simp only [servedIs]
  case awaiting => rw [awaiting, awaitingAfter]; simp only [offIs]
  case trip =>
    rw [trip, awaiting, State.reported]
    have confirmed : s.trip.state.confirmed = (match s.trip.state with | .holding cause => .held cause | o => o) := by
      cases s.trip.state <;> rfl
    exact congrArg (fun state => { s.trip with
      state := if s.awaitingOff ≠ [] ∧ awaitingAfter hb f s = [] then state else s.trip.state }) confirmed
  case setting =>
    refine (changeAttach_setting hb f further s hb).trans ?_
    simp only [true_and, departsIs]
    rfl
  case order =>
    rw [after.order_eq, composes.order, order]
    cases s.order with
    | active stage head members due => rcases held with _ | ⟨members', reason⟩ <;> rfl
    | proposed head due =>
      by_cases leave : leaves <;> simp [OrderRec.onAttach, leave]
    | idle | suspended | faultHeld => rfl
  case pair =>
    rw [show t.pair p = _ from after.pair_eq p, composes.letsGo.pair, pair]
    simp only [Bool.or_eq_true, Bool.and_eq_true, Option.isSome_iff_ne_none, orderPair_iff, order, State.endedPair, departsIs,
      State.setOpOn, attachDerived_op, bodyPairOf_iff, and_assoc]
  case bypass =>
    rw [after.bypass_eq, composes.bypass, bypass]
    simp only [decide_eq_true_eq]
  case choices =>
    rw [after.choices_eq, composes.choices, choices, order]
    simp only [Bool.and_eq_true, decide_eq_true_eq]
  case notices =>
    have report : s.reportNotices (awaitingAfter hb f s) = if t.trip = s.trip then [] else
        [.holdState t.trip.state s.trip.pending s.trip.chainClosed s.trip.hold] := by
      have same : t.trip = s.trip ↔ s.reported (awaitingAfter hb f s) = s.trip.state := by
        rw [trip]
        exact ⟨congrArg TripUnit.state, fun state => by rw [state]⟩
      simp only [same]
      rw [trip, State.reportNotices]
    have orders : s.order.noticesOnAttach (decide leaves) held = orderEnds := by
      simp only [orderEnds]
      cases s.order with
      | active stage head members due => rcases held with _ | ⟨members', reason⟩ <;> rfl
      | proposed head due => simp only [OrderRec.noticesOnAttach, decide_eq_true_eq]
      | idle | suspended | faultHeld => rfl
    have sets : (attachDerived hb f further s).endedNotices hb (departsArmed hb f s) = setEnds := by
      simp only [State.endedNotices, State.setEnd, attachDerived_op, departsIs, setEnds]
      cases (s.setting.get hb).op with
      | none => exact ite_self _
      | some op => rfl
    have bypasses : bypassNotices hb (decide leaves) = bypassEnds := by
      simp only [bypassNotices, decide_eq_true_eq]
      rfl
    have turn : noticesInTurn (decide leaveFirst) (s.order.runs && decide
        ((attachDerived hb f further s).composed ≠ (attachDerived hb f further s).group.members)) orderEnds setEnds
          bypassEnds =
        if leaveFirst then bypassEnds ++ orderEnds ++ setEnds
        else if s.order.runs = true ∧ changed then orderEnds ++ setEnds ++ bypassEnds
        else setEnds ++ bypassEnds ++ orderEnds := by
      simp only [noticesInTurn, decide_eq_true_eq, Bool.and_eq_true, changedIs]
    have posts := composes.letsGo.posts
    rw [order, orders, sets, bypasses, turn] at posts
    have stood : Posts [] (attachSupplied hb f further s) (attachDerived hb f further s) :=
      .silent derived.notices_eq derived.time_eq
    have all := (((attachSupplied_posts hb f further s).trans stood).trans posts).trans
      (changeAttach_transfer_posts hb f further s)
    rw [report, List.append_nil] at all
    simp only [servedIs] at all
    exact all.notices
  case otherSetting =>
    rw [changeAttach_setting, if_neg (fun k => other k.1), if_neg (fun k => other k.1)]

end Sys2Proof.Machine
end

section
/-! SUPPORT. How a reply window's end is judged (Table 8-5), and what its outcome writes into a node's record. -/

namespace Sys2Proof.Machine

-- One theorem at a time: proofs that wait for one another hold a thread each.
set_option Elab.async false

/-! ## Whole replies (R133, Table 8-2) -/

/-- Table 8-2: the kind byte of the reply to a master frame. -/
def FrameKind.replyByte : FrameKind → Byte
  | .exchange _ _ => 0x21
  | .identify => 0x22
  | .diagRead _ => 0x23

/-- What the bytes after kind and address say to a master frame. -/
def FrameKind.content? : FrameKind → List Byte → Option NodeReply
  | .exchange _ _ => exchangeContent?
  | .identify => identifyContent?
  | .diagRead block => diagContent? block

/-- R133: a reply's bytes with their check. -/
def checkedFrame (bytes : List Byte) : List Byte := bytes ++ [crc8 bytes]

theorem readReply?_checkedFrame (f : Flight) (k a : Byte) (content : List Byte) : readReply? f (checkedFrame (k :: a :: content)) =
    if a = nodeAddress f.node ∧ k = f.kind.replyByte then f.kind.content? content else none := by
  unfold readReply? checkedFrame
  rw [List.getLast?_concat, List.dropLast_concat]
  simp only [decide_true, Bool.true_and, decide_eq_true_eq]
  cases f.kind <;> by_cases address : a = nodeAddress f.node <;> simp [address, FrameKind.replyByte, FrameKind.content?]

/-- Only a whole frame of two bytes or more before its check is read. -/
theorem readReply?_framed {f : Flight} {bytes : List Byte} {reply : NodeReply} (h : readReply? f bytes = some reply) :
    ∃ k a content, bytes = checkedFrame (k :: a :: content) := by
  unfold readReply? at h
  split at h
  · next check k a content last front =>
    split at h
    · next checks =>
      simp only [Bool.and_eq_true, decide_eq_true_eq] at checks
      refine ⟨k, a, content, ?_⟩
      rw [checkedFrame, ← front, ← checks.1, List.dropLast_append_getLast? _ last]
    · cases h
  · cases h

theorem readReply?_eq_some {f : Flight} {bytes : List Byte} {reply : NodeReply} : readReply? f bytes = some reply ↔
    ∃ content, bytes = checkedFrame (f.kind.replyByte :: nodeAddress f.node :: content) ∧
      f.kind.content? content = some reply := by
  constructor
  · intro h
    obtain ⟨k, a, content, rfl⟩ := readReply?_framed h
    rw [readReply?_checkedFrame] at h
    split at h
    · next is => exact ⟨content, by rw [is.1, is.2], h⟩
    · cases h
  · rintro ⟨content, rfl, h⟩
    rw [readReply?_checkedFrame, if_pos ⟨rfl, rfl⟩, h]

theorem readReply?_eq_none {f : Flight} {bytes : List Byte} (h : ∀ content reply,
    f.kind.content? content = some reply → bytes ≠ checkedFrame (f.kind.replyByte :: nodeAddress f.node :: content)) :
    readReply? f bytes = none := by
  rw [Option.eq_none_iff_forall_ne_some]
  intro reply whole
  obtain ⟨content, is, read⟩ := readReply?_eq_some.1 whole
  exact h content reply read is

theorem exchangeContent?_eq_some {content : List Byte} {reply : NodeReply} : exchangeContent? content = some reply ↔
    ∃ input echo status, content = [input, echo, status] ∧ reply = .exchange input echo status := by
  unfold exchangeContent?
  split
  · next input echo status =>
    constructor
    · intro h
      exact ⟨input, echo, status, rfl, (Option.some.inj h).symm⟩
    · rintro ⟨input', echo', status', content, rfl⟩
      injections
      subst_vars
      rfl
  · next other =>
    constructor
    · intro h; cases h
    · rintro ⟨input, echo, status, rfl, -⟩
      exact absurd rfl (other input echo status)

/-- Table 8-2: the kind codes of an ID_REPLY. -/
def replyCode (kind : NodeKind) : Byte := match kind with | .corner => 1 | .body => 2 | .aux => 3

theorem busKindOf?_eq_some {k : Byte} {kind : NodeKind} : busKindOf? k.toNat = some kind ↔ k = replyCode kind := by
  constructor
  · intro h
    unfold busKindOf? at h
    split at h
    · cases h; change k = 1; bv_omega
    · split at h
      · cases h; change k = 2; bv_omega
      · split at h
        · cases h; change k = 3; bv_omega
        · cases h
  · rintro rfl
    cases kind <;> rfl

/-- R133: the descriptor bytes that an ID_REPLY of the kind carries. -/
def WholeDescriptor (kind : NodeKind) (descriptor : List Byte) : Prop :=
  if kind = .body then descriptor.length = 16 else descriptor = []

theorem identifyContent?_code {kind : NodeKind} {descriptor : List Byte} (whole : WholeDescriptor kind descriptor) :
    identifyContent? (replyCode kind :: descriptor) = some (.identify kind descriptor) := by
  simp only [identifyContent?, busKindOf?_eq_some.2 rfl]
  cases kind with
  | body => exact if_pos whole
  | corner | aux => obtain rfl : descriptor = [] := whole; rfl

theorem identifyContent?_partial {kind : NodeKind} {descriptor : List Byte} (partly : ¬WholeDescriptor kind descriptor) :
    identifyContent? (replyCode kind :: descriptor) = none := by
  simp only [identifyContent?, busKindOf?_eq_some.2 rfl]
  cases kind <;> exact if_neg partly

theorem identifyContent?_eq_some {content : List Byte} {reply : NodeReply} : identifyContent? content = some reply ↔
    ∃ kind descriptor, content = replyCode kind :: descriptor ∧ WholeDescriptor kind descriptor ∧
      reply = .identify kind descriptor := by
  constructor
  · intro h
    cases content with
    | nil => cases h
    | cons k rest =>
      cases code : busKindOf? k.toNat with
      | none => simp only [identifyContent?, code] at h; cases h
      | some kind =>
        obtain rfl := busKindOf?_eq_some.1 code
        have whole : WholeDescriptor kind rest := by
          by_contra partly
          rw [identifyContent?_partial partly] at h
          cases h
        rw [identifyContent?_code whole] at h
        exact ⟨kind, rest, rfl, whole, (Option.some.inj h).symm⟩
  · rintro ⟨kind, descriptor, rfl, whole, rfl⟩
    exact identifyContent?_code whole

theorem diagContent?_eq_some {block : Byte} {content : List Byte} {reply : NodeReply} :
    diagContent? block content = some reply ↔
      ∃ data : List Byte, content = block :: byte data.length :: data ∧ data.length ≤ 24 ∧ reply = .diag data := by
  constructor
  · intro h
    unfold diagContent? at h
    split at h
    · next b length data =>
      split at h
      · next checks =>
        simp only [Bool.and_eq_true, decide_eq_true_eq, beq_iff_eq] at checks
        obtain ⟨⟨rfl, short⟩, counted⟩ := checks
        refine ⟨data, ?_, by omega, (Option.some.inj h).symm⟩
        have length : length = byte data.length := by rw [counted, byte, BitVec.ofNat_toNat, BitVec.setWidth_eq]
        rw [← length]
      · cases h
    · cases h
  · rintro ⟨data, rfl, short, rfl⟩
    have counted : (byte data.length).toNat = data.length := by
      rw [byte, BitVec.toNat_ofNat]
      omega
    simp [diagContent?, counted, short]

/-! ## Table 8-5 -/

/-- A reply that is not the whole reply asked for, or that is disturbed, is judged as one that stops too long. -/
theorem judgeReply_bad {f : Flight} {bytes : List Byte} {overlap : Bool}
    (bad : overlap = true ∨ f.overlap = true ∨ f.secondHoldOff = true ∨ readReply? f bytes = none) :
    judgeReply f bytes overlap = judgeStall f overlap := by
  rw [judgeReply, judgeStall]
  by_cases clash : (overlap || f.overlap) = true
  · rw [if_pos clash, if_pos clash]
  · rw [if_neg clash, if_neg clash]
    rw [Bool.or_eq_true, not_or] at clash
    obtain second | unread := (bad.resolve_left clash.1).resolve_left clash.2
    · rw [if_pos second]
    · rw [unread, ite_self]

theorem judgeReply_good {f : Flight} {bytes : List Byte} {reply : NodeReply} (alone : f.overlap = false)
    (once : f.secondHoldOff = false) (read : readReply? f bytes = some reply) : judgeReply f bytes false = .good reply := by
  rw [judgeReply, alone, once, read]
  rfl

/-! ## Outcomes taken (R132, R135, R136) -/

section
variable {s : State} {hb : Headblock} {f : Flight} (judge : Flight → FrameOutcome)

theorem onWindow_closed (h : ∀ f, (s.bus.get hb).flight = some f → f.phase = .sending) : onWindow hb judge s = s := by
  unfold onWindow
  cases flight : (s.bus.get hb).flight with
  | none => rfl
  | some f => exact if_pos (h f flight)

theorem onWindow_open (flight : (s.bus.get hb).flight = some f) (waits : f.phase ≠ .sending) :
    onWindow hb judge s = takeOutcome hb f (judge f) s := by
  rw [onWindow, flight]
  exact if_neg waits

theorem takeOutcome_discard (outcome : FrameOutcome) (discard : f.discard = true) :
    takeOutcome hb f outcome s = updateBus hb (fun b => { b with flight := none }) s := if_pos discard

theorem takeOutcome_exchange {image period : Byte} (outcome : FrameOutcome) (counts : f.discard = false)
    (kind : f.kind = .exchange image period) : takeOutcome hb f outcome s =
      exchangeOutcome hb f image period outcome (updateBus hb (fun b => { b with flight := none }) s) := by
  rw [takeOutcome, counts, kind]
  rfl

theorem takeOutcome_identify (outcome : FrameOutcome) (counts : f.discard = false) (kind : f.kind = .identify) :
    takeOutcome hb f outcome s = identifyOutcome hb outcome (updateBus hb (fun b => { b with flight := none }) s) := by
  rw [takeOutcome, counts, kind]
  rfl

theorem takeOutcome_diagRead {block : Byte} (outcome : FrameOutcome) (counts : f.discard = false)
    (kind : f.kind = .diagRead block) : takeOutcome hb f outcome s =
      diagOutcome hb f outcome (updateBus hb (fun b => { b with flight := none }) s) := by
  rw [takeOutcome, counts, kind]
  rfl

/-- The reply rows are judged alike: the frame in flight decides what is asked. -/
theorem exec_reply_bad {bytes : List Byte} {overlap : Bool} (flight : (s.bus.get hb).flight = some f)
    (bad : overlap = true ∨ f.overlap = true ∨ f.secondHoldOff = true ∨ readReply? f bytes = none) :
    exec (.exchReply hb bytes overlap) s = exec (.replyStall hb overlap) s := by
  change Host.Outcome.next (finish s (onWindow hb _ s)) = Host.Outcome.next (finish s (onWindow hb _ s))
  by_cases waits : f.phase = .sending
  · have closed : ∀ g, (s.bus.get hb).flight = some g → g.phase = .sending := fun g is => by
      rw [flight] at is
      cases is
      exact waits
    rw [onWindow_closed _ closed, onWindow_closed _ closed]
  · rw [onWindow_open _ flight waits, onWindow_open _ flight waits, judgeReply_bad bad]

end

end Sys2Proof.Machine
end

section
/-! SUPPORT. A node that goes LOST handed on, diagnostic frames, and the statement about them. -/

namespace Sys2Proof.Machine

-- One theorem at a time: proofs that wait for one another hold a thread each.
set_option Elab.async false

/-! ## The hand-on of a LOST node (R138) -/

/-- A bus that is free sends nothing. -/
theorem stillSending_free {s : State} {p : PairId} (free : (s.bus.get p.hb).flight = none) : s.stillSending p = false := by
  rw [Bool.eq_false_iff, Ne, stillSending_iff]
  rintro ⟨f, image, period, flight, -⟩
  rw [free] at flight
  cases flight

theorem confirmLost_free {s : State} {hb : Headblock} {n : NodeIx} {r : NodeRec} (node : s.node hb n = some r)
    (lost : r.link = .lost) (free : (s.bus.get hb).flight = none) : confirmLost hb n s =
      confirmedOff (fun p => decide (p.hb = hb ∧ p.node = n ∧ r.offTime p ≤ s.time)) s := by
  rw [confirmLost_eq node lost]
  refine confirmedOff_congr fun p awaited => ?_
  rw [Bool.eq_iff_iff, decide_eq_true_eq, decide_eq_true_eq, mem_nodePairs]
  constructor
  · rintro ⟨⟨-, ⟨head, address⟩, -⟩, time⟩
    exact ⟨head, address, time⟩
  · rintro ⟨head, address, time⟩
    exact ⟨⟨awaited, ⟨head, address⟩, stillSending_free (by rw [head]; exact free)⟩, time⟩

/-- R3, R4: the members of a LOST node are unknown. -/
theorem derivedMember_lost {s : State} {hb : Headblock} {n : NodeIx} {r : NodeRec} (node : s.node hb n = some r)
    (lost : r.link = .lost) {m : Member} (here : m ∈ nodeMembers hb n) : s.derivedMember m = ⟨.unknown, .unknown⟩ := by
  obtain ⟨head, address⟩ := mem_nodeMembers.1 here
  have noInput : s.onlineInput m.hb m.node = none := by
    rw [head, address, State.onlineInput, node]
    exact if_neg (by rw [lost]; decide)
  rw [State.derivedMember, noInput]
  exact ite_self _

theorem rederiveNode_lost {s : State} {hb : Headblock} {n : NodeIx} {r : NodeRec} (node : s.node hb n = some r)
    (lost : r.link = .lost) : rederiveNode hb n s =
      updateMembers (fun m r => if m ∈ nodeMembers hb n then ⟨.unknown, .unknown⟩ else r) s := by
  unfold rederiveNode rederive
  congr 1
  funext m r
  by_cases here : m ∈ nodeMembers hb n
  · rw [if_pos here, if_pos (List.contains_iff_mem.2 here), derivedMember_lost node lost here]
  · rw [if_neg here, if_neg (mt List.contains_iff_mem.1 here)]

theorem orderNodeLost_eq (hb : Headblock) (n : NodeIx) (s : State) : orderNodeLost hb n s = match s.order with
    | .active _ head members _ =>
      if ∃ om ∈ members, om.member ∈ nodeMembers hb n then
        heldOrder head (members.map fun om =>
          if om.member ∈ nodeMembers hb n then { om with progress := .failed } else om) .nodeLost s
      else s
    | _ => s := by
  unfold orderNodeLost
  cases h : s.order with
  | active stage head members due =>
    simp only [OrderRec.activeMembers, List.any_eq_true, List.contains_iff_mem, abortOrder_active h]
  | idle | proposed | suspended | faultHeld => simp [OrderRec.activeMembers]

theorem abortTransferOf_eq (hb : Headblock) (n : NodeIx) (s : State) : abortTransferOf hb n s =
    match (s.bus.get hb).transfer with
    | some d =>
      if d.node = n then post (.diagResult hb d .aborted) (updateBus hb (fun b => { b with transfer := none }) s) else s
    | none => s := by
  unfold abortTransferOf endTransfer
  cases (s.bus.get hb).transfer with
  | none => rfl
  | some d => simp

theorem allLost_iff {s : State} {hb : Headblock} {n : NodeIx} {r : NodeRec} (node : s.node hb n = some r) :
    (s.bus.get hb).allLost = true ↔ ∀ m : NodeIx, ∀ r ∈ s.node hb m, r.link = .lost := by
  have one : (List.finRange 7).any (fun n => ((s.bus.get hb).node n).isSome) = true :=
    List.any_eq_true.2 ⟨n, List.mem_finRange n, by rw [← State.node, node]; rfl⟩
  rw [Bus.allLost, one, Bool.true_and, List.all_eq_true]
  refine ⟨fun all m q listed => ?_, fun all m _ => ?_⟩
  · have lost := all m (List.mem_finRange m)
    rw [← State.node, Option.mem_def.1 listed] at lost
    simpa using lost
  · rw [← State.node, Option.all_eq_true]
    exact fun q listed => by simpa using all m q listed

/-- R125: what a bus in service whose last node went LOST becomes. -/
theorem checkLinkDown_eq {s : State} {hb : Headblock} {n : NodeIx} {r : NodeRec} (node : s.node hb n = some r) :
    checkLinkDown hb s =
      if ∀ m : NodeIx, ∀ r ∈ s.node hb m, r.link = .lost then
        match (s.attach.get hb).state with
        | .identified => changeAttach hb (fun a => { a with state := .linkDown .identified }) []
            (updateBus hb (fun b => { b with lastProbe := none }) s)
        | .armed => changeAttach hb (fun a => { a with state := .linkDown .armed }) []
            (updateBus hb (fun b => { b with lastProbe := none }) s)
        | _ => s
      else s := by
  unfold checkLinkDown State.attachState
  simp only [allLost_iff node]
  cases (s.attach.get hb).state with
  | identified | armed => rfl
  | empty | powering | census | linkDown | reidentify | attachFault | releasing | off => exact (ite_self _).symm

/-- R138: the hand-on of a node's change to LOST, but for the change of attachment state that it can bring. -/
def lostHanded (hb : Headblock) (n : NodeIx) (r : NodeRec) (s : State) : State :=
  abortTransferOf hb n (settingNodeLost hb n (orderNodeLost hb n
    (updateMembers (fun m r => if m ∈ nodeMembers hb n then ⟨.unknown, .unknown⟩ else r)
      (confirmedOff (fun p => decide (p.hb = hb ∧ p.node = n ∧ r.offTime p ≤ s.time)) s))))

theorem confirmedOff_keeps (gone : PairId → Bool) (s : State) :
    keeps [.awaitingOff, .trip, .notices] s (confirmedOff gone s) := by
  rw [← dropAwaiting_eq]
  exact dropAwaiting_keeps s gone

theorem lostHanded_keeps (hb : Headblock) (n : NodeIx) (r : NodeRec) (s : State) :
    keeps [.awaitingOff, .trip, .notices, .members, .order, .pairs, .setting, .memberList, .traffic] s (lostHanded hb n r s) :=
  ((confirmedOff_keeps _ s).mono (by decide)).trans <| ((updateMembers_keeps _ _).mono (by decide)).trans <|
    ((orderNodeLost_keeps _ hb n).mono (by decide)).trans <|
      ((settingNodeLost_keeps _ hb n).mono (by decide)).trans ((abortTransferOf_keeps _ hb n).mono (by decide))

/-- A transfer that ends touches no node. -/
theorem node_endTransfer (hb h : Headblock) (status : TransferEnd) (n : NodeIx) (s : State) :
    (endTransfer hb status s).node h n = s.node h n := by
  rw [State.node, bus_endTransfer]
  split
  · next is => rw [is]; rfl
  · rfl

theorem node_abortTransferOf (hb h : Headblock) (n m : NodeIx) (s : State) :
    (abortTransferOf hb n s).node h m = s.node h m := by
  unfold abortTransferOf
  split
  · exact node_endTransfer hb h .aborted m s
  · rfl

theorem node_lostHanded (hb h : Headblock) (n m : NodeIx) (r : NodeRec) (s : State) :
    (lostHanded hb n r s).node h m = s.node h m := by
  have before := ((confirmedOff_keeps (fun p => decide (p.hb = hb ∧ p.node = n ∧ r.offTime p ≤ s.time)) s).mono
    (b := [.awaitingOff, .trip, .notices, .members, .order, .pairs, .setting, .memberList]) (by decide)).trans <|
    ((updateMembers_keeps (s := _) (f := fun m r => if m ∈ nodeMembers hb n then ⟨.unknown, .unknown⟩ else r)).mono
      (by decide)).trans <|
    ((orderNodeLost_keeps _ hb n).mono (by decide)).trans ((settingNodeLost_keeps _ hb n).mono (by decide))
  rw [lostHanded, node_abortTransferOf, State.node, before.traffic_eq]
  rfl

theorem nodeLost_free {s : State} {hb : Headblock} {n : NodeIx} {r : NodeRec} (node : s.node hb n = some r)
    (lost : r.link = .lost) (free : (s.bus.get hb).flight = none) :
    nodeLost hb n s = checkLinkDown hb (lostHanded hb n r s) := by
  have same : (confirmedOff (fun p => decide (p.hb = hb ∧ p.node = n ∧ r.offTime p ≤ s.time)) s).node hb n = some r := by
    rw [State.node, (confirmedOff_keeps _ s).traffic_eq, ← State.node, node]
  rw [nodeLost, confirmLost_free node lost free, rederiveNode_lost same lost, lostHanded]

/-! ## A node's record and the transfer after a frame (R147, R148) -/

theorem updateBus_updateBus (hb : Headblock) (f g : Bus → Bus) (s : State) :
    updateBus hb f (updateBus hb g s) = updateBus hb (fun b => f (g b)) s := by
  unfold updateBus
  cases hb <;> rfl

/-- The bus free, a node's record written, the transfer as given. -/
def nodeAnswered (hb : Headblock) (n : NodeIx) (new : NodeRec) (transfer : Option Transfer) (s : State) : State :=
  updateBus hb (fun b =>
    { b with
      flight := none
      transfer := transfer
      nodes := Vector.ofFn fun m => if m = n then some new else b.node m }) s

section
variable {hb : Headblock} {n : NodeIx} {new : NodeRec} {s : State}

theorem nodes_updateNode {b : Bus} {old : NodeRec} (node : b.node n = some old) (new : NodeRec) :
    b.updateNode n (fun _ => new) = { b with nodes := Vector.ofFn fun m => if m = n then some new else b.node m } := by
  unfold Bus.updateNode Bus.updateNodes
  congr 2
  funext m
  by_cases is : m = n
  · subst is
    simp [node]
  · simp [is]

theorem entered_free {old : NodeRec} (node : s.node hb n = some old) (new : NodeRec) :
    updateBus hb (Bus.updateNode n fun _ => new) (updateBus hb (fun b => { b with flight := none }) s) =
      nodeAnswered hb n new (s.bus.get hb).transfer s := by
  have written := nodes_updateNode (b := { s.bus.get hb with flight := none }) node new
  rw [updateBus_updateBus, nodeAnswered, updateBus, updateBus, written]
  rfl

theorem setTransfer_answered (d : Transfer) (transfer : Option Transfer) :
    setTransfer hb d (nodeAnswered hb n new transfer s) = nodeAnswered hb n new (some d) s := by
  rw [setTransfer, nodeAnswered, updateBus_updateBus]
  rfl

theorem transfer_answered (transfer : Option Transfer) :
    ((nodeAnswered hb n new transfer s).bus.get hb).transfer = transfer := by
  rw [nodeAnswered, bus_updateBus, if_pos rfl]

theorem node_answered (transfer : Option Transfer) : (nodeAnswered hb n new transfer s).node hb n = some new := by
  rw [State.node, nodeAnswered, bus_updateBus, if_pos rfl]
  exact (get_ofFn _ n).trans (if_pos rfl)

theorem endTransfer_answered (d : Transfer) (status : TransferEnd) :
    endTransfer hb status (nodeAnswered hb n new (some d) s) = post (.diagResult hb d status) (nodeAnswered hb n new none s) := by
  rw [endTransfer, transfer_answered]
  refine congrArg (post _) ?_
  rw [nodeAnswered, updateBus_updateBus]
  rfl

theorem endTransfer_none (status : TransferEnd) (h : (s.bus.get hb).transfer = none) : endTransfer hb status s = s := by
  rw [endTransfer, h]

end

/-! ## The outcome of a diagnostic frame (R147, R148) -/

section
variable {hb : Headblock} {f : Flight} {old : NodeRec} {d : Transfer} {s : State}

/-- The outcome of a frame whose transfer stands, the node ONLINE. -/
theorem diagOutcome_eq (node : s.node hb f.node = some old) (held : f.orphan = false) (outcome : FrameOutcome) :
    diagOutcome hb f outcome (updateBus hb (fun b => { b with flight := none }) s) =
      linkChanged hb f.node old.link (postAll
        (nodeStateNotices hb f.node outcome old (old.diagnosed s.time outcome))
        (if (old.diagnosed s.time outcome).link = .lost ∧ old.link ≠ .lost then
          abortTransferOf hb f.node (transferOutcome hb outcome
            (nodeAnswered hb f.node (old.diagnosed s.time outcome) (s.bus.get hb).transfer s))
        else transferOutcome hb outcome
            (nodeAnswered hb f.node (old.diagnosed s.time outcome) (s.bus.get hb).transfer s))) := by
  have same : (updateBus hb (fun b => { b with flight := none }) s).node hb f.node = some old := by
    rw [State.node, bus_updateBus, if_pos rfl]
    exact node
  rw [← entered_free node, diagOutcome, same]
  simp only [held]
  rfl

/-- R147: a block received joins the transfer. -/
theorem transferOutcome_good (new : NodeRec) (data : List Byte) :
    transferOutcome hb (.good (.diag data)) (nodeAnswered hb f.node new (some d) s) =
      if data.length < 24 then
        post (.diagResult hb (d.receive data) .short) (nodeAnswered hb f.node new none s)
      else if d.received + 1 = d.count then
        post (.diagResult hb (d.receive data) .complete) (nodeAnswered hb f.node new none s)
      else nodeAnswered hb f.node new (some { d.receive data with next := d.next + 1 }) s := by
  simp only [transferOutcome, transfer_answered, setTransfer_answered, endTransfer_answered]
  rfl

/-- R147: a block missed is asked again, three times in all. -/
theorem transferOutcome_bad {outcome : FrameOutcome} (bad : outcome.isGood = false) (new : NodeRec) :
    transferOutcome hb outcome (nodeAnswered hb f.node new (some d) s) =
      if d.attempt < 3 then nodeAnswered hb f.node new (some { d with attempt := d.attempt + 1 }) s
      else post (.diagResult hb d .failed) (nodeAnswered hb f.node new none s) := by
  cases outcome with
  | good reply => cases bad
  | silent | corrupt | clash =>
    simp only [transferOutcome, transfer_answered, setTransfer_answered, endTransfer_answered]

theorem abortTransferOf_bad {outcome : FrameOutcome} (bad : outcome.isGood = false) (own : d.node = f.node) (new : NodeRec) :
    abortTransferOf hb f.node (transferOutcome hb outcome (nodeAnswered hb f.node new (some d) s)) =
      post (if d.attempt < 3 then .diagResult hb { d with attempt := d.attempt + 1 } .aborted else .diagResult hb d .failed)
        (nodeAnswered hb f.node new none s) := by
  rw [transferOutcome_bad bad]
  split
  · rw [abortTransferOf_eq, transfer_answered]
    simp only [own, if_true]
    exact congrArg (post _) (by rw [nodeAnswered, updateBus_updateBus]; rfl)
  · rw [abortTransferOf_eq, post_bus, transfer_answered]

end

/-! ## NODE_STATE (R139) -/

theorem nodeStateNotices_none {hb : Headblock} {n : NodeIx} {outcome : FrameOutcome} {old new : NodeRec}
    (link : new.link = old.link) (clash : outcome ≠ .clash) (restarted : outcome.restarted = false)
    (supply : new.supplyLow = old.supplyLow) : nodeStateNotices hb n outcome old new = [] :=
  if_neg (by simp [link, clash, restarted, supply])

theorem restarted_of_bad {outcome : FrameOutcome} (bad : outcome.isGood = false) : outcome.restarted = false := by
  cases outcome with
  | good reply => cases bad
  | silent | corrupt | clash => rfl

/-- R139: NODE_STATE of an outcome that is not GOOD. -/
theorem nodeStateNotices_bad {hb : Headblock} {n : NodeIx} {outcome : FrameOutcome} {old new : NodeRec}
    (bad : outcome.isGood = false) (supply : new.supplyLow = old.supplyLow) :
    nodeStateNotices hb n outcome old new = if new.link ≠ old.link ∨ outcome = .clash then
      [.nodeState hb n new.kind new.link new.misses (outcome == .clash) false new.supplyLow] else [] := by
  simp only [nodeStateNotices, restarted_of_bad bad, supply, Bool.false_eq_true, ne_eq, not_true, or_false]

theorem linkChanged_same {s : State} {hb : Headblock} {n : NodeIx} {r : NodeRec} {old : NodeLink}
    (node : s.node hb n = some r) (same : r.link = old) : linkChanged hb n old s = s := by
  rw [linkChanged, node]
  exact if_pos same

theorem linkChanged_lost {s : State} {hb : Headblock} {n : NodeIx} {r : NodeRec} {old : NodeLink}
    (node : s.node hb n = some r) (lost : r.link = .lost) (changed : old = .online) : linkChanged hb n old s = nodeLost hb n s := by
  rw [linkChanged, node]
  exact (if_neg (by rw [lost, changed]; decide)).trans (if_pos lost)

/-! ## An outcome that is not GOOD -/

theorem bad_below {r : NodeRec} (h : r.misses.val < 2) : r.bad = { r with misses := r.misses + 1 } := if_pos h

theorem bad_third {r : NodeRec} (h : 2 ≤ r.misses.val) :
    r.bad = { r with misses := 3, link := .lost, signalsKnown := false } := if_neg (by omega)

theorem judgeSilence_bad (f : Flight) (overlap : Bool) :
    (judgeSilence f overlap).isGood = false ∧ (judgeSilence f overlap == .clash) = (overlap || f.overlap) := by
  unfold judgeSilence
  cases overlap || f.overlap <;> decide

theorem judgeStall_bad (f : Flight) (overlap : Bool) :
    (judgeStall f overlap).isGood = false ∧ (judgeStall f overlap == .clash) = (overlap || f.overlap) := by
  unfold judgeStall
  cases overlap || f.overlap <;> decide

/-- Table 8-5: silence and a stall are not GOOD, and are a CLASH where transmitters overlapped. -/
theorem judge_bad {i : Instr} {hb : Headblock} {overlap : Bool}
    (h : i ∈ [Instr.replyWindowEnd hb overlap, .replyStall hb overlap]) (s : State) : ∃ judge : Flight → FrameOutcome,
      exec i s = .next (finish s (onWindow hb judge s)) ∧ ∀ f, (judge f).isGood = false ∧
        (judge f == .clash) = (overlap || f.overlap) := by
  rw [List.mem_pair] at h
  obtain rfl | rfl := h
  · exact ⟨fun f => judgeSilence f overlap, rfl, fun f => judgeSilence_bad f overlap⟩
  · exact ⟨fun f => judgeStall f overlap, rfl, fun f => judgeStall_bad f overlap⟩

end Sys2Proof.Machine
end

section
/-! SUPPORT. The outcomes of diagnostic frames and of missed exchanges, and the statements about them. -/

namespace Sys2Proof.Machine

-- One theorem at a time: proofs that wait for one another hold a thread each.
set_option Elab.async false

theorem nodeStateNotices_bad_same {hb : Headblock} {n : NodeIx} {outcome : FrameOutcome} {old new : NodeRec}
    (bad : outcome.isGood = false) (supply : new.supplyLow = old.supplyLow) (link : new.link = old.link) :
    nodeStateNotices hb n outcome old new = if outcome == .clash then
      [.nodeState hb n new.kind new.link new.misses true false new.supplyLow] else [] := by
  rw [nodeStateNotices_bad bad supply, link]
  cases outcome <;> simp

theorem nodeStateNotices_bad_lost {hb : Headblock} {n : NodeIx} {outcome : FrameOutcome} {old new : NodeRec}
    (bad : outcome.isGood = false) (supply : new.supplyLow = old.supplyLow) (lost : new.link = .lost)
    (online : old.link = .online) : nodeStateNotices hb n outcome old new =
      [.nodeState hb n new.kind .lost new.misses (outcome == .clash) false new.supplyLow] := by
  rw [nodeStateNotices_bad bad supply, lost, online, if_pos (.inl (by decide))]

/-! ## Diagnostic frames (R147, R148) -/

section
variable {s : State} {hb : Headblock} {f : Flight} {old : NodeRec} {d : Transfer} {block : Byte}
variable (flight : (s.bus.get hb).flight = some f) (kind : f.kind = .diagRead block) (waits : f.phase ≠ .sending)
  (counts : f.discard = false) (held : f.orphan = false) (node : s.node hb f.node = some old) (online : old.link = .online)
  (transfer : (s.bus.get hb).transfer = some d)
include flight kind waits counts held node online transfer

theorem diagGood {judge : Flight → FrameOutcome} {data : List Byte} (good : judge f = .good (.diag data)) :
    onWindow hb judge s = if data.length < 24 then
        post (.diagResult hb (d.receive data) .short)
          (nodeAnswered hb f.node { old with misses := 0, lastGood := s.time } none s)
      else if d.received + 1 = d.count then
        post (.diagResult hb (d.receive data) .complete)
          (nodeAnswered hb f.node { old with misses := 0, lastGood := s.time } none s)
      else nodeAnswered hb f.node { old with misses := 0, lastGood := s.time }
        (some { d.receive data with next := d.next + 1 }) s := by
  have new : old.diagnosed s.time (.good (.diag data)) = { old with misses := 0, lastGood := s.time } := by
    rw [NodeRec.diagnosed, if_pos (by rfl), NodeRec.good, ← online]
  rw [onWindow_open _ flight waits, good, takeOutcome_diagRead _ counts kind, diagOutcome_eq node held, new,
    if_neg (fun h => absurd h.1 (by rw [online]; decide)), transfer, transferOutcome_good,
    nodeStateNotices_none (old := old) (new := { old with misses := 0, lastGood := s.time }) rfl (by simp) rfl rfl,
    postAll_nil]
  refine linkChanged_same (r := { old with misses := 0, lastGood := s.time }) ?_ rfl
  split
  · exact node_answered _
  · split <;> exact node_answered _

theorem diagBad_below {judge : Flight → FrameOutcome} (bad : (judge f).isGood = false) (below : old.misses.val < 2) :
    onWindow hb judge s = postAll
      ((if d.attempt < 3 then [] else [.diagResult hb d .failed]) ++
        (if judge f == .clash then [.nodeState hb f.node old.kind .online (old.misses + 1) true false old.supplyLow] else []))
      (nodeAnswered hb f.node { old with misses := old.misses + 1 }
        (if d.attempt < 3 then some { d with attempt := d.attempt + 1 } else none) s) := by
  have new : old.diagnosed s.time (judge f) = { old with misses := old.misses + 1 } := by
    rw [NodeRec.diagnosed, bad, if_neg (by decide), bad_below below]
  have notices : nodeStateNotices hb f.node (judge f) old { old with misses := old.misses + 1 } =
      if judge f == .clash then [.nodeState hb f.node old.kind .online (old.misses + 1) true false old.supplyLow] else [] := by
    refine Eq.trans (nodeStateNotices_bad_same bad ?_ ?_) ?_ <;> simp only [online]
  rw [onWindow_open _ flight waits, takeOutcome_diagRead _ counts kind, diagOutcome_eq node held, new,
    if_neg (fun h => absurd h.1 (by rw [online]; decide)), transfer, transferOutcome_bad bad, notices]
  refine (linkChanged_same (r := { old with misses := old.misses + 1 }) ?_ rfl).trans ?_
  · rw [State.node, postAll_bus]
    split <;> exact node_answered _
  · rw [postAll_append]
    refine congrArg (postAll _) ?_
    split <;> rfl

theorem diagBad_third {judge : Flight → FrameOutcome} (bad : (judge f).isGood = false) (own : d.node = f.node)
    (third : 2 ≤ old.misses.val) : onWindow hb judge s = nodeLost hb f.node (postAll
      [if d.attempt < 3 then .diagResult hb { d with attempt := d.attempt + 1 } .aborted else .diagResult hb d .failed,
        .nodeState hb f.node old.kind .lost 3 (judge f == .clash) false old.supplyLow]
      (nodeAnswered hb f.node { old with misses := 3, link := .lost, signalsKnown := false } none s)) := by
  have new : old.diagnosed s.time (judge f) = { old with misses := 3, link := .lost, signalsKnown := false } := by
    rw [NodeRec.diagnosed, bad, if_neg (by decide), bad_third third]
  have notices : nodeStateNotices hb f.node (judge f) old { old with misses := 3, link := .lost, signalsKnown := false } =
      [.nodeState hb f.node old.kind .lost 3 (judge f == .clash) false old.supplyLow] := by
    exact nodeStateNotices_bad_lost bad rfl rfl online
  rw [onWindow_open _ flight waits, takeOutcome_diagRead _ counts kind, diagOutcome_eq node held, new,
    if_pos ⟨rfl, by rw [online]; decide⟩, transfer, abortTransferOf_bad bad own, notices]
  exact linkChanged_lost (r := { old with misses := 3, link := .lost, signalsKnown := false }) (node_answered _) rfl online

end

/-- R133: the whole DIAG_REPLY to a request for a block. -/
def diagBytes (f : Flight) (block : Byte) (data : List Byte) : List Byte :=
  checkedFrame (0x23 :: nodeAddress f.node :: block :: byte data.length :: data)

section
variable {f : Flight} {block : Byte} (kind : f.kind = .diagRead block)
include kind

theorem readReply?_diagBytes {data : List Byte} (short : data.length ≤ 24) :
    readReply? f (diagBytes f block data) = some (.diag data) := by
  rw [readReply?_eq_some, kind]
  exact ⟨_, rfl, diagContent?_eq_some.2 ⟨data, rfl, short, rfl⟩⟩

theorem readReply?_not_diagBytes {bytes : List Byte}
    (other : ∀ data : List Byte, data.length ≤ 24 → bytes ≠ diagBytes f block data) : readReply? f bytes = none := by
  refine readReply?_eq_none fun content reply read is => ?_
  rw [kind] at read is
  obtain ⟨data, rfl, short, -⟩ := diagContent?_eq_some.1 read
  exact other data short is

end

/-- Settles O57: each end of a diagnostic frame's window goes through its outcome, and a LOST node's hand-on through the
states of its parts. -/
theorem diagReply : Obligations.DiagReply := by
  refine ⟨fun s hb f old d block flight kind waits counts held node online transfer own => ?frames,
    fun s hb n r node lost free => ?lost⟩
  case frames =>
    intro reply after
    refine ⟨fun data alone once short => ?good, fun bytes overlap bad => ?disturbed, fun overlap i listed => ?bad⟩
    case good =>
      intro answered received command
      have outcome := diagGood flight kind waits counts held node online transfer (judge := fun f => judgeReply f
        (reply data ++ [crc8 (reply data)]) false) (judgeReply_good alone once (readReply?_diagBytes kind short))
      have is : exec command s = .next (finish s _) := congrArg (fun t => Host.Outcome.next (finish s t)) outcome
      refine ⟨fun partly => ?_, fun whole last => ?_, fun whole more => ?_⟩
      · rw [is, if_pos partly]
        rfl
      · rw [is, if_neg (by omega), if_pos last]
        rfl
      · rw [is, if_neg (by omega), if_neg more]
        rfl
    case disturbed =>
      refine exec_reply_bad flight ?_
      exact bad.imp_right fun bad => bad.imp_right fun bad => bad.imp_right fun other => readReply?_not_diagBytes kind other
    case bad =>
      obtain ⟨judge, is, judged⟩ := judge_bad listed s
      obtain ⟨bad, clash⟩ := judged f
      refine ⟨fun below => ?_, fun third => ?_⟩
      · rw [is, diagBad_below flight kind waits counts held node online transfer bad below, clash]
        rfl
      · rw [is, diagBad_third flight kind waits counts held node online transfer bad own third, clash]
        rfl
  case lost =>
    intro confirmed unknown ordered set read down
    have before := ((confirmedOff_keeps (fun p => decide (p.hb = hb ∧ p.node = n ∧ r.offTime p ≤ s.time)) s).mono
      (b := [.awaitingOff, .trip, .notices, .members]) (by decide)).trans ((updateMembers_keeps (s := confirmed)
        (f := fun m r => if m ∈ nodeMembers hb n then ⟨.unknown, .unknown⟩ else r)).mono (by decide))
    have same : orderNodeLost hb n unknown = ordered := by
      rw [orderNodeLost_eq, before.order_eq] <;> rfl
    have after := ((before.mono (b := [.awaitingOff, .trip, .notices, .members, .order, .pairs, .setting, .memberList])
      (by decide)).trans ((orderNodeLost_keeps _ hb n).mono (by decide))).trans
        ((settingNodeLost_keeps _ hb n).mono (by decide))
    rw [same] at after
    have transfer : (set.bus.get hb).transfer = (s.bus.get hb).transfer := by rw [after.traffic_eq]
    have handed : lostHanded hb n r s = read := by
      change abortTransferOf hb n (settingNodeLost hb n (orderNodeLost hb n unknown)) = read
      rw [same, abortTransferOf_eq]
      change (match (set.bus.get hb).transfer with | some d => _ | none => set) = _
      rw [transfer] <;> rfl
    have here : read.node hb n = some r := by rw [← handed, node_lostHanded, node]
    rw [nodeLost_free node lost free, handed, checkLinkDown_eq here]
    have nodes : ∀ m, read.node hb m = s.node hb m := fun m => by rw [← handed, node_lostHanded]
    have attach : read.attach = s.attach := by
      rw [← handed]
      exact (lostHanded_keeps hb n r s).attach_eq
    simp only [nodes, attach] <;> rfl

end Sys2Proof.Machine
end

section
/-! SUPPORT. What the hand-on of a LOST node leaves, and the statement about missed exchanges. -/

namespace Sys2Proof.Machine

-- One theorem at a time: proofs that wait for one another hold a thread each.
set_option Elab.async false

/-! ## Notices posted, which ones left open -/

/-- Notices are queued behind those of the state before, the time unchanged. -/
def PostsSome (s t : State) : Prop := ∃ bodies, Posts bodies s t

namespace PostsSome

variable {s t u : State}

theorem trans (h : PostsSome s t) (k : PostsSome t u) : PostsSome s u := by
  obtain ⟨bodies, h⟩ := h
  obtain ⟨more, k⟩ := k
  exact ⟨bodies ++ more, h.trans k⟩

theorem refl (s : State) : PostsSome s s := ⟨[], .silent⟩

theorem of_heldOrder (head : OrderHead) (members : List OrderMember) (reason : EndReason) {s t : State}
    (notices : t.notices = s.notices := by rfl) (time : t.time = s.time := by rfl) :
    PostsSome s (heldOrder head members reason t) :=
  ⟨_, (heldOrder_notices head members reason t).trans (notices_postAll_congr notices time _), time⟩

theorem of_abortOrder (reason : EndReason) (failed : OrderMember → Bool) {s t : State}
    (notices : t.notices = s.notices := by rfl) (time : t.time = s.time := by rfl) :
    PostsSome s (abortOrder reason failed t) := by
  cases order : t.order with
  | active =>
    rw [abortOrder_active order]
    exact .of_heldOrder _ _ _ notices time
  | idle | proposed | suspended | faultHeld =>
    rw [abortOrder_of_not_runs (by rw [order]; rfl)]
    exact ⟨[], notices, time⟩

theorem of_compose {s t : State} (notices : t.notices = s.notices := by rfl) (time : t.time = s.time := by rfl) :
    PostsSome s (compose t) := by
  by_cases same : t.composed = t.group.members
  · rw [compose_same same]
    exact ⟨[], notices, time⟩
  · rw [compose_changed same]
    exact .of_abortOrder _ _ notices time

theorem of_abortSetOp (hb : Headblock) (reason : SetReason) (s : State) : PostsSome s (abortSetOp hb reason s) := by
  cases op : (s.setting.get hb).op with
  | none =>
    rw [abortSetOp_none op]
    exact .refl s
  | some op' =>
    rw [abortSetOp_some op]
    exact PostsSome.trans ⟨_, .of_post (updateSetting hb (fun _ => ⟨none, 0, none⟩) (letGo (bodyPairOf hb) s)) _⟩ .of_compose

theorem of_lostHanded (hb : Headblock) (n : NodeIx) (r : NodeRec) (s : State) : PostsSome s (lostHanded hb n r s) := by
  have confirmed : PostsSome s (confirmedOff (fun p => decide (p.hb = hb ∧ p.node = n ∧ r.offTime p ≤ s.time)) s) := by
    rw [← dropAwaiting_eq]
    exact ⟨_, dropAwaiting_posts _ s⟩
  have ordered : ∀ t, PostsSome t (orderNodeLost hb n t) := fun t => by
    unfold orderNodeLost
    simp only
    split
    · exact .of_abortOrder _ _
    · exact .refl t
  have set : ∀ t, PostsSome t (settingNodeLost hb n t) := fun t => by
    unfold settingNodeLost
    split
    · exact .of_abortSetOp _ _ t
    · exact .refl t
  have read : ∀ t, PostsSome t (abortTransferOf hb n t) := fun t => by
    unfold abortTransferOf
    split
    · exact ⟨_, endTransfer_posts hb .aborted t⟩
    · exact .refl t
  have derived : ∀ t, PostsSome t (updateMembers (fun m r => if m ∈ nodeMembers hb n then ⟨.unknown, .unknown⟩ else r) t) :=
    fun t => ⟨[], .silent⟩
  exact confirmed.trans ((derived _).trans ((ordered _).trans ((set _).trans (read _))))

theorem of_changeAttach (hb : Headblock) (f : Attach → Attach) (further : List NoticeBody) (s : State) :
    PostsSome s (changeAttach hb f further s) := by
  have derived := attachDerived_keeps hb f further s
  have stood : Posts [] (attachSupplied hb f further s) (attachDerived hb f further s) :=
    .silent derived.notices_eq derived.time_eq
  exact ⟨_, (((attachSupplied_posts hb f further s).trans stood).trans (attachComposed_composes hb f further s).letsGo.posts).trans
    (changeAttach_transfer_posts hb f further s)⟩

end PostsSome

/-! ## LINK_DOWN (R125) -/

/-- R125: a bus in service goes down. -/
def linkDownTo (hb : Headblock) (prior : Prior) (s : State) : State :=
  changeAttach hb (fun a => { a with state := .linkDown prior }) [] (updateBus hb (fun b => { b with lastProbe := none }) s)

section
variable {s : State} {hb : Headblock} {n : NodeIx} {r : NodeRec}

theorem checkLinkDown_down (node : s.node hb n = some r) (all : ∀ m : NodeIx, ∀ r ∈ s.node hb m, r.link = .lost)
    {prior : Prior} (served : s.attachState hb = prior.state) : checkLinkDown hb s = linkDownTo hb prior s := by
  rw [checkLinkDown_eq node, if_pos all, ← State.attachState, served]
  cases prior <;> rfl

/-- R125: the bus stays as it is, or goes down out of a state in service. -/
theorem checkLinkDown_cases (node : s.node hb n = some r) : checkLinkDown hb s = s ∨
    ∃ prior : Prior, s.attachState hb = prior.state ∧ checkLinkDown hb s = linkDownTo hb prior s := by
  by_cases all : ∀ m : NodeIx, ∀ r ∈ s.node hb m, r.link = .lost
  · cases state : (s.attach.get hb).state with
    | identified => exact .inr ⟨.identified, state, checkLinkDown_down node all (prior := .identified) state⟩
    | armed => exact .inr ⟨.armed, state, checkLinkDown_down node all (prior := .armed) state⟩
    | empty | powering | census | linkDown | reidentify | attachFault | releasing | off =>
      exact .inl (by rw [checkLinkDown_eq node, if_pos all, state])
  · exact .inl (by rw [checkLinkDown_eq node, if_neg all])

end

section
variable {s : State} {hb : Headblock} {prior : Prior}

theorem attachState_linkDownTo : (linkDownTo hb prior s).attachState hb = .linkDown prior := by
  rw [linkDownTo, State.attachState, attach_changeAttach, ← State.attachState, attachState_updateAttach]
  rfl

theorem bus_linkDownTo :
    (linkDownTo hb prior s).bus.get hb = { s.bus.get hb with lastProbe := none, transfer := none } := by
  have supplied : losesSupply hb (fun a => { a with state := .linkDown prior })
      (updateBus hb (fun b => { b with lastProbe := none }) s) = false := by
    simp [losesSupply, enteredState, AttachState.supplyOn]
  rw [linkDownTo, changeAttach_bus_own, supplied, bus_updateBus, if_pos rfl]
  rfl

theorem order_linkDownTo {head : OrderHead} {members : List OrderMember} {reason : EndReason}
    (held : s.order = .faultHeld head members reason) : (linkDownTo hb prior s).order = .faultHeld head members reason := by
  unfold linkDownTo
  rw [(changeAttach_after hb _ _ _).order_eq, (attachComposed_composes hb _ _ _).order, (attachDerived_keeps hb _ _ _).order_eq,
    (attachSupplied_keeps hb _ _ _).order_eq, (updateBus_keeps s hb _).order_eq, held]
  rfl

theorem member_linkDownTo {m : Member} (here : m.hb = hb) :
    (linkDownTo hb prior s).member m = (linkDownTo hb prior s).derivedMember m := by
  rw [linkDownTo, changeAttach_member, if_pos here]

theorem PostsSome.of_linkDownTo : PostsSome s (linkDownTo hb prior s) :=
  PostsSome.trans (t := updateBus hb (fun b => { b with lastProbe := none }) s) ⟨[], .silent⟩ (.of_changeAttach hb _ _ _)

end

/-! ## The hand-on whole (R138) -/

section
variable {s : State} {hb : Headblock} {n : NodeIx} {r : NodeRec}

theorem bus_lostHanded : ∃ transfer, (lostHanded hb n r s).bus.get hb = { s.bus.get hb with transfer := transfer } := by
  have before := ((confirmedOff_keeps (fun p => decide (p.hb = hb ∧ p.node = n ∧ r.offTime p ≤ s.time)) s).mono
    (b := [.awaitingOff, .trip, .notices, .members, .order, .pairs, .setting, .memberList]) (by decide)).trans <|
    ((updateMembers_keeps (s := _) (f := fun m r => if m ∈ nodeMembers hb n then ⟨.unknown, .unknown⟩ else r)).mono
      (by decide)).trans <|
    ((orderNodeLost_keeps _ hb n).mono (by decide)).trans ((settingNodeLost_keeps _ hb n).mono (by decide))
  rw [lostHanded]
  unfold abortTransferOf
  split
  · exact ⟨none, by rw [bus_endTransfer, if_pos rfl, before.traffic_eq]⟩
  · exact ⟨(s.bus.get hb).transfer, by rw [before.traffic_eq]⟩

theorem member_lostHanded {m : Member} (here : m ∈ nodeMembers hb n) : (lostHanded hb n r s).member m = ⟨.unknown, .unknown⟩ := by
  rw [lostHanded, (abortTransferOf_keeps _ hb n).member_eq, (settingNodeLost_keeps _ hb n).member_eq,
    (orderNodeLost_keeps _ hb n).member_eq, member_updateMembers, if_pos here]

theorem order_lostHanded {stage : ActiveStage} {head : OrderHead} {members : List OrderMember} {due : Nat}
    (active : s.order = .active stage head members due) (named : ∃ om ∈ members, om.member ∈ nodeMembers hb n) :
    (lostHanded hb n r s).order = .faultHeld head (members.map fun om =>
      if om.member ∈ nodeMembers hb n then { om with progress := .failed } else om) .nodeLost := by
  have here : (updateMembers (fun m r => if m ∈ nodeMembers hb n then ⟨.unknown, .unknown⟩ else r)
      (confirmedOff (fun p => decide (p.hb = hb ∧ p.node = n ∧ r.offTime p ≤ s.time)) s)).order =
        .active stage head members due := by
    rw [updateMembers_order, (confirmedOff_keeps _ s).order_eq, active]
  rw [lostHanded, (abortTransferOf_keeps _ hb n).order_eq, orderNodeLost_eq]
  simp only [here]
  rw [if_pos named]
  unfold settingNodeLost
  split
  · exact order_abortSetOp_of_not_runs rfl hb .nodeLost
  · rfl

variable (node : s.node hb n = some r) (lost : r.link = .lost) (free : (s.bus.get hb).flight = none)
include node lost free

theorem nodeLost_cases : nodeLost hb n s = lostHanded hb n r s ∨ ∃ prior : Prior, s.attachState hb = prior.state ∧
    nodeLost hb n s = linkDownTo hb prior (lostHanded hb n r s) := by
  have same : (lostHanded hb n r s).attachState hb = s.attachState hb := by
    rw [State.attachState, (lostHanded_keeps hb n r s).attach_eq, State.attachState]
  rw [nodeLost_free node lost free, ← same]
  exact checkLinkDown_cases ((node_lostHanded _ _ _ _ _ _).trans node)

theorem bus_nodeLost : ∃ transfer probe,
    (nodeLost hb n s).bus.get hb = { s.bus.get hb with transfer := transfer, lastProbe := probe } := by
  obtain ⟨transfer, handed⟩ := bus_lostHanded (s := s) (hb := hb) (n := n) (r := r)
  obtain same | ⟨prior, -, down⟩ := nodeLost_cases node lost free
  · exact ⟨transfer, _, by rw [same, handed]⟩
  · exact ⟨none, none, by rw [down, bus_linkDownTo, handed]⟩

theorem member_nodeLost {m : Member} (here : m ∈ nodeMembers hb n) : (nodeLost hb n s).member m = ⟨.unknown, .unknown⟩ := by
  obtain ⟨transfer, probe, bus⟩ := bus_nodeLost node lost free
  obtain same | ⟨prior, -, down⟩ := nodeLost_cases node lost free
  · rw [same, member_lostHanded here]
  · have still : (nodeLost hb n s).node hb n = some r := by
      rw [State.node, bus]
      exact node
    rw [down, member_linkDownTo (mem_nodeMembers.1 here).1, ← down]
    exact derivedMember_lost still lost here

theorem order_nodeLost {stage : ActiveStage} {head : OrderHead} {members : List OrderMember} {due : Nat}
    (active : s.order = .active stage head members due) (named : ∃ om ∈ members, om.member ∈ nodeMembers hb n) :
    (nodeLost hb n s).order = .faultHeld head (members.map fun om =>
      if om.member ∈ nodeMembers hb n then { om with progress := .failed } else om) .nodeLost := by
  obtain same | ⟨prior, -, down⟩ := nodeLost_cases node lost free
  · rw [same, order_lostHanded active named]
  · rw [down, order_linkDownTo (order_lostHanded active named)]

theorem nodeLost_postsSome : PostsSome s (nodeLost hb n s) := by
  have handed := PostsSome.of_lostHanded hb n r s
  obtain same | ⟨prior, -, down⟩ := nodeLost_cases node lost free
  · rw [same]
    exact handed
  · rw [down]
    exact handed.trans .of_linkDownTo

theorem nodeLost_down (all : ∀ m : NodeIx, ∀ r ∈ s.node hb m, r.link = .lost) {prior : Prior}
    (served : s.attachState hb = prior.state) : nodeLost hb n s = linkDownTo hb prior (lostHanded hb n r s) := by
  rw [nodeLost_free node lost free]
  refine checkLinkDown_down ((node_lostHanded _ _ _ _ _ _).trans node) (fun m q listed => ?_) ?_
  · rw [node_lostHanded] at listed
    exact all m q listed
  · rw [State.attachState, (lostHanded_keeps hb n r s).attach_eq, ← State.attachState, served]

end

/-! ## Missed exchanges (R135, R138) -/

section
variable {s : State} {hb : Headblock} {f : Flight} {old : NodeRec} {image period : Byte} {judge : Flight → FrameOutcome}

/-- What a missed exchange writes into the node's record. -/
def NodeRec.missed (image : Byte) (r : NodeRec) : NodeRec := { r.bad with reference := some image }

/-- A missed exchange entered, with its NODE_STATE. -/
def missEntered (hb : Headblock) (f : Flight) (old : NodeRec) (image : Byte) (outcome : FrameOutcome) (s : State) : State :=
  postAll (nodeStateNotices hb f.node outcome old (old.missed image))
    (nodeAnswered hb f.node (old.missed image) (s.bus.get hb).transfer s)

theorem onWindow_missed (flight : (s.bus.get hb).flight = some f) (kind : f.kind = .exchange image period)
    (waits : f.phase ≠ .sending) (counts : f.discard = false) (node : s.node hb f.node = some old)
    (bad : (judge f).isGood = false) :
    onWindow hb judge s = linkChanged hb f.node old.link (missEntered hb f old image (judge f) s) := by
  have same : (updateBus hb (fun b => { b with flight := none }) s).node hb f.node = some old := by
    rw [State.node, bus_updateBus, if_pos rfl]
    exact node
  rw [onWindow_open _ flight waits, takeOutcome_exchange _ counts kind, exchangeOutcome, same, missEntered, ← entered_free node]
  cases outcome : judge f with
  | good reply => rw [outcome] at bad; cases bad
  | silent | corrupt | clash => rfl

theorem missed_below (below : old.misses.val < 2) :
    old.missed image = { old with misses := old.misses + 1, reference := some image } := by
  rw [NodeRec.missed, bad_below below]

theorem missed_third (third : 2 ≤ old.misses.val) :
    old.missed image = { old with misses := 3, link := .lost, signalsKnown := false, reference := some image } := by
  rw [NodeRec.missed, bad_third third]

theorem node_missEntered (outcome : FrameOutcome) (n : NodeIx) : (missEntered hb f old image outcome s).node hb n =
    if n = f.node then some (old.missed image) else s.node hb n := by
  rw [State.node, missEntered, postAll_bus, nodeAnswered, bus_updateBus, if_pos rfl]
  exact get_ofFn _ n

theorem missEntered_keeps (outcome : FrameOutcome) :
    keeps [.nodes, .traffic, .notices] s (missEntered hb f old image outcome s) :=
  (updateBus_keeps s hb _).then (postAll_keeps _ _)

end

/-- Settles O55: the record entered, and with the third miss the hand-on of a LOST node. -/
theorem missedExchange : Obligations.MissedExchange := by
  intro s hb f old image period overlap flight kind waits counts node i listed clash
  obtain ⟨judge, is, judged⟩ := judge_bad listed s
  obtain ⟨bad, clashIs⟩ := judged f
  rw [onWindow_missed flight kind waits counts node bad] at is
  refine ⟨fun below => ?_, fun third => ?_⟩
  · intro new
    have notices : nodeStateNotices hb f.node (judge f) old (old.missed image) =
        if clash then [.nodeState hb f.node old.kind old.link new.misses true false old.supplyLow] else [] := by
      rw [missed_below below]
      refine (nodeStateNotices_bad_same bad rfl rfl).trans ?_
      rw [clashIs]
    rw [is, linkChanged_same (node_missEntered _ _ |>.trans (if_pos rfl)) (by rw [missed_below below]), missEntered, notices,
      missed_below below]
    rfl
  · intro new
    have is' : old.missed image = new := missed_third third
    have notices : nodeStateNotices hb f.node (judge f) old (old.missed image) =
        if old.link = .online ∨ clash = true then
          [.nodeState hb f.node old.kind .lost 3 clash false old.supplyLow] else [] := by
      have clashed : judge f = .clash ↔ clash = true := by rw [← beq_iff_eq, clashIs]
      have changed : new.link ≠ old.link ↔ old.link = .online := by cases h : old.link <;> simp [new]
      rw [is']
      refine (nodeStateNotices_bad (old := old) (new := new) bad rfl).trans ?_
      rw [clashIs]
      exact if_congr (or_congr changed clashed) rfl rfl
    refine ⟨_, is, ?_⟩
    have entered : (missEntered hb f old image (judge f) s).node hb f.node = some new :=
      (node_missEntered _ _).trans ((if_pos rfl).trans (by rw [is']))
    have others : ∀ n, n ≠ f.node → (missEntered hb f old image (judge f) s).node hb n = s.node hb n :=
      fun n other => (node_missEntered _ _).trans (if_neg other)
    have free : ((missEntered hb f old image (judge f) s).bus.get hb).flight = none := by
      rw [missEntered, postAll_bus, nodeAnswered, bus_updateBus, if_pos rfl]
    have enteredKeeps := missEntered_keeps (s := s) (hb := hb) (f := f) (old := old) (image := image) (judge f)
    rw [← notices]
    by_cases online : old.link = .online
    · rw [linkChanged_lost entered rfl online]
      obtain ⟨transfer, probe, bus⟩ := bus_nodeLost entered rfl free
      obtain ⟨rest, posted⟩ := nodeLost_postsSome entered rfl free
      have nodes : ∀ n, (nodeLost hb f.node (missEntered hb f old image (judge f) s)).node hb n =
          (missEntered hb f old image (judge f) s).node hb n := fun n => by rw [State.node, bus]; rfl
      refine ⟨(nodes _).trans entered, fun n other => (nodes n).trans (others n other), ?_, fun m here _ =>
        member_nodeLost entered rfl free here, fun all prior _ served _ => ?_, fun stage head members due active _ named =>
        order_nodeLost entered rfl free (enteredKeeps.order_eq.trans active) named, ⟨rest, ?_⟩,
        (enteredKeeps.mono (by decide)).trans ((nodeLost_keeps _ hb f.node).mono (by decide))⟩
      · rw [bus]
        exact free
      · have lost : ∀ m : NodeIx, ∀ r ∈ (missEntered hb f old image (judge f) s).node hb m, r.link = .lost := by
          intro m r listed
          by_cases own : m = f.node
          · rw [own, entered] at listed
            cases listed
            rfl
          · rw [others m own] at listed
            exact all r m own listed
        rw [nodeLost_down entered rfl free lost (by rw [State.attachState, enteredKeeps.attach_eq]; exact served)]
        exact ⟨attachState_linkDownTo, by rw [bus_linkDownTo]⟩
      · exact ((Posts.of_postAll _ _).trans posted).notices
    · rw [linkChanged_same entered (by cases h : old.link; exacts [absurd h online, rfl])]
      exact ⟨entered, others, free, fun _ _ on => absurd on online, fun _ _ _ _ on => absurd on online,
        fun _ _ _ _ _ on => absurd on online, ⟨[], by rw [List.append_nil]; exact notices_postAll_congr rfl rfl _⟩,
        enteredKeeps.mono (by decide)⟩

end Sys2Proof.Machine
end

section
/-! SUPPORT. What a good exchange reply does to pairs, members and order, and the statement about it. -/

namespace Sys2Proof.Machine

-- One theorem at a time: proofs that wait for one another hold a thread each.
set_option Elab.async false

/-! ## The pairs of a node that has answered (R65 to R70) -/

section
variable {v : State} {hb : Headblock} {n : NodeIx} {new : NodeRec} {echo image : Byte}
variable (node : v.node hb n = some new) (online : new.link = .online) (echoed : new.echo = some echo)
  (carried : new.reference = some image)
include node online echoed

theorem echo_entered {p : PairId} (served : p ∈ nodePairs hb n) : v.echo p = imageEcho p echo := by
  obtain ⟨head, address⟩ := mem_nodePairs.1 served
  rw [State.echo, head, address, node]
  simp only [online, if_true, echoed, Option.map_some, Option.getD_some]

include carried

omit online echoed in
theorem reference_entered {p : PairId} (served : p ∈ nodePairs hb n) : v.reference p = some (imageEcho p image) := by
  obtain ⟨head, address⟩ := mem_nodePairs.1 served
  rw [State.reference, head, address, node, Option.bind_some, carried, Option.map_some]

theorem disagrees_entered {p : PairId} (served : p ∈ nodePairs hb n) :
    v.disagrees p = decide (imageEcho p echo = .bothOn ∨ imageEcho p echo ≠ imageEcho p image) := by
  rw [State.disagrees, echo_entered node online echoed served, reference_entered node carried served, Bool.eq_iff_iff,
    decide_eq_true_eq, Bool.or_eq_true, beq_iff_eq, bne_iff_ne, ne_eq, ne_eq, Option.some_inj, eq_comm (a := imageEcho p image)]

theorem latching_entered : v.latching hb n = (nodePairs hb n).filter fun p =>
    decide ((imageEcho p echo = .bothOn ∨ imageEcho p echo ≠ imageEcho p image) ∧ (v.pair p).mismatch = true) := by
  refine List.filter_congr fun p served => ?_
  rw [disagrees_entered node online echoed carried served, Bool.decide_and, Bool.decide_eq_true]

theorem latchNotices_entered {latching : List PairId} (here : ∀ p ∈ latching, p ∈ nodePairs hb n) :
    v.latchNotices latching = (latching.filter fun p => (v.pair p).fault = false).map fun p =>
      .memberFault p (imageEcho p image) (imageEcho p echo) (v.pair p).command := by
  have unlatched : (latching.filter fun p => !(v.pair p).fault) = latching.filter fun p => (v.pair p).fault = false :=
    List.filter_congr fun p _ => by cases (v.pair p).fault <;> rfl
  rw [State.latchNotices, unlatched]
  refine List.map_congr_left fun p listed => ?_
  have served := here p (List.mem_filter.1 listed).1
  rw [echo_entered node online echoed served, reference_entered node carried served, Option.getD_some]

/-- R65, R66, R69: the record of a pair of the node after the reply. -/
theorem checkedPair_entered {p : PairId} (served : p ∈ nodePairs hb n) (r : Pair) : v.checkedPair p r =
    { command := r.command
      mismatch := decide ((imageEcho p echo = .bothOn ∨ imageEcho p echo ≠ imageEcho p image) ∧ r.mismatch = false)
      fault := decide (r.fault = true ∨ (imageEcho p echo = .bothOn ∨ imageEcho p echo ≠ imageEcho p image) ∧ r.mismatch = true)
      offMark := decide (r.offMark = true ∨ imageEcho p echo = .bothOff ∧
        if 8 ≤ p.i.val then (v.setting.get p.hb).op ≠ none else ∃ om ∈ v.order.activeMembers, om.member.pair = p)
      lastOnFirst := if imageEcho p echo = .on .first ∨ imageEcho p echo = .bothOn then some (timeWord v.time) else r.lastOnFirst
      lastOnSecond := if imageEcho p echo = .on .second ∨ imageEcho p echo = .bothOn then some (timeWord v.time)
        else r.lastOnSecond } := by
  have held : (v.holds p = true) = if 8 ≤ p.i.val then (v.setting.get p.hb).op ≠ none
      else ∃ om ∈ v.order.activeMembers, om.member.pair = p := by
    rw [eq_iff_iff, holds_iff]
    simp only [PairId.isBody, decide_eq_true_eq, Option.isSome_iff_ne_none]
  simp only [State.checkedPair, echo_entered node online echoed served, disagrees_entered node online echoed carried served,
    ← held, State.msTime, Echo.shows, Bool.decide_and, Bool.decide_or, Bool.decide_eq_true, Bool.or_eq_true,
    decide_eq_true_eq, Bool.decide_eq_false]
  rfl

/-- R136, step 1, of a node that has answered. -/
theorem coilsOnReply_entered (latching : List PairId) (is : latching = (nodePairs hb n).filter fun p =>
      decide ((imageEcho p echo = .bothOn ∨ imageEcho p echo ≠ imageEcho p image) ∧ (v.pair p).mismatch = true)) :
    coilsOnReply hb n v = confirmedOff (fun p => decide (p ∈ latching ∨
        p ∈ nodePairs hb n ∧ imageEcho p echo = .bothOff ∧ imageEcho p image = .bothOff))
      (postAll ((latching.filter fun p => (v.pair p).fault = false).map fun p =>
          .memberFault p (imageEcho p image) (imageEcho p echo) (v.pair p).command)
        (updatePairs (fun p r => if p ∈ nodePairs hb n then v.checkedPair p r else r) v)) := by
  have latched := (latching_entered node online echoed carried).trans is.symm
  have notices := latchNotices_entered node online echoed carried (latching := latching)
    fun p listed => (List.mem_filter.1 (is ▸ listed)).1
  have confirms : (fun p => latching.contains p || ((nodePairs hb n).contains p && v.confirmedByReply p)) = fun p =>
      decide (p ∈ latching ∨ p ∈ nodePairs hb n ∧ imageEcho p echo = .bothOff ∧ imageEcho p image = .bothOff) := by
    funext p
    by_cases served : p ∈ nodePairs hb n
    · rw [State.confirmedByReply, echo_entered node online echoed served, reference_entered node carried served, Bool.eq_iff_iff]
      simp [served]
    · simp [served]
  unfold coilsOnReply
  simp only [latched, notices, confirms, dropAwaiting_eq, List.contains_iff_mem]

end

/-! ## The order after a reply of its corner node (R40 to R51) -/

theorem orderOnReply_eq (hb : Headblock) (n : NodeIx) (latching : List PairId) (old u : State) :
    orderOnReply hb n latching old u = match u.order with
      | .active _ head members _ =>
        let here := fun om : OrderMember => om.member ∈ nodeMembers hb n
        let coil := fun om : OrderMember => here om ∧ om.member.pair ∈ latching
        let conflict := fun om : OrderMember => here om ∧ (u.member om.member).position = .conflict
        let lifted := fun om : OrderMember => here om ∧ u.bypass = none ∧ (old.member om.member).landed = .on ∧
          (u.member om.member).landed = .off
        let failed := members.map fun om =>
          if coil om ∨ conflict om ∨ lifted om then { om with progress := .failed } else om
        if ∃ om ∈ members, coil om then heldOrder head failed .coilFault u
        else if ∃ om ∈ members, conflict om then heldOrder head failed .sensorFault u
        else if ∃ om ∈ members, lifted om then heldOrder head failed .landedLost u
        else setProgress (members.map fun om => if here om then u.memberOnReply head.kind om else om) u
      | _ => u := by
  unfold orderOnReply
  cases order : u.order with
  | active stage head members due =>
    simp only [abortOrder_active order, State.landedLost, List.any_eq_true, Bool.or_eq_true, Bool.and_eq_true, or_assoc,
      beq_iff_eq, List.contains_iff_mem, Option.isNone_iff_eq_none, and_assoc]
  | idle | proposed | suspended | faultHeld => rfl

/-! ## A good exchange (R136) -/

section
variable {s : State} {hb : Headblock} {f : Flight} {old : NodeRec}

theorem readReply?_exchange {image period : Byte} (kind : f.kind = .exchange image period) (input echo status : Byte) :
    readReply? f (checkedFrame [0x21, nodeAddress f.node, input, echo, status]) = some (.exchange input echo status) := by
  rw [readReply?_eq_some, kind]
  exact ⟨_, rfl, exchangeContent?_eq_some.2 ⟨input, echo, status, rfl, rfl⟩⟩

theorem readReply?_not_exchange {image period : Byte} (kind : f.kind = .exchange image period) {bytes : List Byte}
    (other : ∀ input echo status, bytes ≠ checkedFrame [0x21, nodeAddress f.node, input, echo, status]) :
    readReply? f bytes = none := by
  refine readReply?_eq_none fun content reply read is => ?_
  rw [kind] at read is
  obtain ⟨input, echo, status, rfl, -⟩ := exchangeContent?_eq_some.1 read
  exact other input echo status is

/-- A node's record written, the rest of its bus as it stands. -/
theorem updateNode_entered (node : s.node hb f.node = some old) (new : NodeRec) :
    updateBus hb (Bus.updateNode f.node fun _ => new) s =
      updateBus hb (fun b => { b with nodes := Vector.ofFn fun n => if n = f.node then some new else b.node n }) s := by
  unfold updateBus
  rw [nodes_updateNode node]

end

/-- Settles O54: each block in turn takes the reply that the node's record already holds. -/
theorem Exchange.goodExchange : Obligations.GoodExchange := by
  refine fun s hb bytes overlap => ⟨fun idle => ?idle, ⟨rfl, rfl⟩, fun f image period flight kind waits => ?waiting⟩
  case idle => exact congrArg (fun t => Host.Outcome.next (finish s t)) (onWindow_closed _ idle)
  intro reply free
  have freeNode : free.node hb f.node = s.node hb f.node := by
    rw [State.node, bus_updateBus, if_pos rfl]
    rfl
  refine ⟨fun nothing => ?nothing, fun bad => ?bad, fun old input echo status alone counts clear once node is => ?good⟩
  case nothing =>
    refine congrArg (fun t => Host.Outcome.next (finish s t)) ?_
    rw [onWindow_open _ flight waits]
    by_cases discard : f.discard = true
    · exact takeOutcome_discard _ discard
    · rw [takeOutcome_exchange _ (Bool.not_eq_true _ ▸ discard) kind, exchangeOutcome, freeNode, nothing.resolve_left discard]
  case bad =>
    exact exec_reply_bad flight (bad.imp_right fun bad => bad.imp_right fun bad => bad.imp_right fun other =>
      readReply?_not_exchange kind other)
  case good =>
    intro new shown disagrees served latching held recorded compared confirmed u ordered
    refine congrArg (fun t => Host.Outcome.next (finish s t)) ?_
    have outcome : judgeReply f bytes overlap = .good (.exchange input echo status) := by
      rw [alone, is]
      exact judgeReply_good clear once (readReply?_exchange kind input echo status)
    have entered : recorded.node hb f.node = some new := by
      rw [State.node, postAll_bus, bus_updateBus, if_pos rfl]
      exact (get_ofFn _ f.node).trans (if_pos rfl)
    have records : postAll (nodeStateNotices hb f.node (.good (.exchange input echo status)) old new)
        (updateBus hb (Bus.updateNode f.node fun _ => new) free) = recorded := by
      have notices : nodeStateNotices hb f.node (.good (.exchange input echo status)) old new =
          if old.link = .lost ∨ status.getLsbD 0 = true ∨ status.getLsbD 1 ≠ old.supplyLow then
            [.nodeState hb f.node old.kind .online 0 false (status.getLsbD 0) (status.getLsbD 1)] else [] := by
        refine if_congr ?_ rfl rfl
        cases h : old.link <;> simp [FrameOutcome.restarted, new]
      rw [updateNode_entered (freeNode.trans node), notices]
    have window : onWindow hb (fun f => judgeReply f bytes overlap) s = Machine.goodExchange hb f.node input free recorded := by
      rw [onWindow_open _ flight waits, outcome, takeOutcome_exchange _ counts kind, exchangeOutcome, freeNode, node, ← records]
      rfl
    have latched : recorded.latching hb f.node = latching := latching_entered entered rfl rfl rfl
    have coils : coilsOnReply hb f.node recorded = confirmed := by
      rw [coilsOnReply_entered entered rfl rfl rfl latching rfl]
      have checked : (fun p r => if p ∈ nodePairs hb f.node then recorded.checkedPair p r else r) = _ :=
        funext fun p => funext fun r => ite_congr rfl (fun listed => checkedPair_entered entered rfl rfl rfl listed r) fun _ => rfl
      rw [checked]
      rfl
    have derived : rederiveNode hb f.node confirmed = u := by
      unfold rederiveNode rederive
      simp only [List.contains_iff_mem]
      rfl
    have stood : keeps [.nodes, .traffic, .notices, .pairs, .awaitingOff, .trip, .members] s u := by
      rw [← derived, ← coils]
      have written : keeps [.nodes, .traffic, .notices] s recorded :=
        ((updateBus_keeps s hb _).trans (updateBus_keeps free hb _)).then (postAll_keeps _ _)
      exact ((written.mono (by decide)).trans
        ((coilsOnReply_keeps recorded hb f.node).mono (by decide))).trans ((rederive_keeps _ _).mono (by decide))
    have orders : orderOnReply hb f.node latching free u = ordered := by
      rw [orderOnReply_eq, stood.order_eq, stood.bypass_eq] <;> rfl
    rw [window, Machine.goodExchange, latched, coils, derived, orders]

end Sys2Proof.Machine
end

section
/-! SUPPORT. How a census is judged and ends, and the statement about census replies. -/

namespace Sys2Proof.Machine

-- One theorem at a time: proofs that wait for one another hold a thread each.
set_option Elab.async false

/-! ## The judgement of a census (R116, Table 7-3) -/

namespace Census

variable {c : Census}

theorem answered_iff {n : NodeIx} {kind : NodeKind} :
    c.answered n kind = true ↔ ∃ a, c.answers.get n = some a ∧ a.kind = kind := by
  rw [Census.answered, Option.any_eq_true]
  simp only [beq_iff_eq]

theorem corners_iff : (List.finRange 4).all (fun k => c.answered (k.castLE (by decide)) .corner) = true ↔
    ∀ n : NodeIx, n.val < 4 → ∃ a, c.answers.get n = some a ∧ a.kind = .corner := by
  simp only [List.all_eq_true, List.mem_finRange, forall_const, answered_iff]
  exact ⟨fun all n small => all ⟨n.val, small⟩, fun all k => all _ k.isLt⟩

theorem matches_iff {d : Descriptor} : c.matches d = true ↔
    ∀ n k, (∃ a, c.answers.get n = some a ∧ a.kind = k) ↔ d.kindAt n = some k := by
  simp only [Census.matches, List.all_eq_true, List.mem_finRange, forall_const, beq_iff_eq]
  refine forall_congr' fun n => ?_
  have answers : ∀ k, (∃ a, c.answers.get n = some a ∧ a.kind = k) ↔ (c.answers.get n).map Answer.kind = some k :=
    fun k => Option.map_eq_some_iff.symm
  simp only [answers]
  exact ⟨fun same k => by rw [same], fun same => Option.ext fun k => (same k).symm⟩

theorem judge_noBody (silent : ¬∃ a, c.answers.get 4 = some a ∧ a.kind = .body) : c.judge = .error .noBody := by
  rw [Census.judge]
  exact if_pos (by rw [Bool.not_eq_true', ← Bool.not_eq_true]; exact mt answered_iff.1 silent)

theorem judge_cornerMissing (body : ∃ a, c.answers.get 4 = some a ∧ a.kind = .body)
    (missing : ¬∀ n : NodeIx, n.val < 4 → ∃ a, c.answers.get n = some a ∧ a.kind = .corner) :
    c.judge = .error .cornerMissing := by
  rw [Census.judge, if_neg (by rw [(answered_iff (n := bodyNode)).2 body]; decide)]
  exact if_pos (by rw [Bool.not_eq_true', ← Bool.not_eq_true]; exact mt corners_iff.1 missing)

theorem judge_complete {b : Answer} (body : c.answers.get 4 = some b) (kind : b.kind = .body)
    (corners : ∀ n : NodeIx, n.val < 4 → ∃ a, c.answers.get n = some a ∧ a.kind = .corner) :
    c.judge = match descriptorOf? b.descriptor with
      | none => .error .censusMismatch
      | some d => if c.matches d then .ok d else .error .censusMismatch := by
  rw [Census.judge, if_neg (by rw [(answered_iff (n := bodyNode)).2 ⟨b, body, kind⟩]; decide),
    if_neg (by rw [corners_iff.2 corners]; decide), bodyNode, body, Option.bind_some] <;> rfl

theorem judge_unlisted {b : Answer} (body : c.answers.get 4 = some b) (kind : b.kind = .body)
    (corners : ∀ n : NodeIx, n.val < 4 → ∃ a, c.answers.get n = some a ∧ a.kind = .corner)
    (unlisted : ∀ d, descriptorOf? b.descriptor = some d →
      ¬∀ n k, (∃ a, c.answers.get n = some a ∧ a.kind = k) ↔ d.kindAt n = some k) : c.judge = .error .censusMismatch := by
  rw [judge_complete body kind corners]
  cases described : descriptorOf? b.descriptor with
  | none => rfl
  | some d => exact if_neg (mt matches_iff.1 (unlisted d described))

theorem judge_listed {b : Answer} (body : c.answers.get 4 = some b) (kind : b.kind = .body)
    (corners : ∀ n : NodeIx, n.val < 4 → ∃ a, c.answers.get n = some a ∧ a.kind = .corner) {d : Descriptor}
    (described : descriptorOf? b.descriptor = some d)
    (lists : ∀ n k, (∃ a, c.answers.get n = some a ∧ a.kind = k) ↔ d.kindAt n = some k) : c.judge = .ok d := by
  rw [judge_complete body kind corners, described]
  exact if_pos (matches_iff.2 lists)

end Census

/-! ## The end of a census (R116, R126, R127) -/

section
variable {s : State} {hb : Headblock} {c : Census}

theorem refreshTable_eq (d : Descriptor) : refreshTable hb d c s =
    clearMismatches (fun p => p.hb = hb && (d.kindAt p.node).isSome) (updateBus hb (fun b =>
      { b with nodes := Vector.ofFn fun n => (d.kindAt n).map fun k => match b.node n with
          | none => freshNode k (c.answeredAt n)
          | some r => refreshNode k (c.answeredAt n) r }) s) := by
  have table : (Bus.updateNodes fun n old => (d.kindAt n).map fun k => match old with
        | some r => refreshNode k (c.answeredAt n) r
        | none => freshNode k (c.answeredAt n)) = fun b : Bus =>
      { b with nodes := Vector.ofFn fun n => (d.kindAt n).map fun k => match b.node n with
          | none => freshNode k (c.answeredAt n)
          | some r => refreshNode k (c.answeredAt n) r } := by
    funext b
    unfold Bus.updateNodes
    congr 2
    funext n
    cases b.node n <;> rfl
  unfold refreshTable
  rw [← table]
  rfl

/-! ## The outcomes of census frames (R115, R136) -/

theorem identifyOutcome_linkDown {prior : Prior} (state : s.attachState hb = .linkDown prior) (outcome : FrameOutcome) :
    identifyOutcome hb outcome s = if outcome.isGood then
      changeAttach hb (fun a => { a with state := .reidentify prior, census := some .start }) [] s else s := by
  simp only [identifyOutcome, state]

theorem identifyOutcome_census (asks : s.attachState hb = .census ∨ ∃ prior, s.attachState hb = .reidentify prior)
    (census : (s.attach.get hb).census = some c) (outcome : FrameOutcome) :
    identifyOutcome hb outcome s = censusOutcome hb c outcome s := by
  obtain state | ⟨prior, state⟩ := asks <;> simp only [identifyOutcome, state, census]

theorem censusOutcome_bad {outcome : FrameOutcome} (bad : outcome.isGood = false) :
    censusOutcome hb c outcome s = if outcome == .clash then enterFault hb .clash s
      else if c.attempt < 3 then keepCensus hb { c with attempt := c.attempt + 1 } s else censusOn hb c s := by
  cases outcome with
  | good reply => cases bad
  | silent | corrupt | clash => rfl

theorem censusOn_next (next : c.node.val + 1 < 7) : censusOn hb c s =
    updateAttach hb (fun a => { a with census := some ⟨c.answers, ⟨c.node.val + 1, next⟩, 1⟩ }) s := dif_pos next

theorem censusOn_last {verdict : Except AttachCause Descriptor} (last : c.node.val = 6) (judged : c.judge = verdict) :
    censusOn hb c s = endCensus hb c verdict s := by
  rw [← judged]
  exact dif_neg (by omega)

theorem censusOn_fault {cause : AttachCause} (last : c.node.val = 6) (judged : c.judge = .error cause) :
    censusOn hb c s = changeAttach hb (fun a =>
      { a with state := .attachFault cause, descriptor := none, profile := none, census := none }) [] s :=
  censusOn_last last judged

section
variable {d old : Descriptor} {prior : Prior} (last : c.node.val = 6) (judged : c.judge = .ok d)
include last judged

theorem censusOn_identified (state : s.attachState hb = .census) : censusOn hb c s = changeAttach hb (fun a =>
    { a with state := .identified, descriptor := some d, census := none }) [] (fillTable hb d c s) := by
  rw [censusOn_last last judged]
  simp only [endCensus, state]
  rfl

variable (state : s.attachState hb = .reidentify prior) (holds : (s.attach.get hb).descriptor = some old)
include state holds

theorem censusOn_other (other : old.serial ≠ d.serial) : censusOn hb c s = changeAttach hb (fun a =>
    { a with state := .identified, descriptor := some d, profile := none, census := none })
    [.spreaderChanged hb old.serial old.model d.serial d.model]
    (clearLatches (fun p => p.hb = hb) (fillTable hb d c s)) := by
  rw [censusOn_last last judged]
  simp only [endCensus, state, holds, if_neg other]
  rfl

theorem censusOn_same (same : old.serial = d.serial) : censusOn hb c s = changeAttach hb (fun a =>
    { a with state := prior.state, descriptor := some d, census := none }) []
    (clearMismatches (fun p => p.hb = hb && (d.kindAt p.node).isSome) (updateBus hb (fun b =>
      { b with nodes := Vector.ofFn fun n => (d.kindAt n).map fun k => match b.node n with
          | none => freshNode k (c.answeredAt n)
          | some r => refreshNode k (c.answeredAt n) r }) s)) := by
  rw [censusOn_last last judged]
  simp only [endCensus, state, holds, if_pos same, sameSpreader, refreshTable_eq]

end

end

/-- R133: the whole ID_REPLY of a kind. -/
theorem readReply?_identify {f : Flight} (asks : f.kind = .identify) {kind : NodeKind} {descriptor : List Byte}
    (whole : WholeDescriptor kind descriptor) :
    readReply? f (checkedFrame ([0x22, nodeAddress f.node, replyCode kind] ++ descriptor)) = some (.identify kind descriptor) := by
  rw [readReply?_eq_some, asks]
  exact ⟨_, rfl, identifyContent?_eq_some.2 ⟨kind, descriptor, rfl, whole, rfl⟩⟩

theorem readReply?_not_identify {f : Flight} (asks : f.kind = .identify) {bytes : List Byte}
    (other : ∀ kind descriptor, WholeDescriptor kind descriptor →
      bytes ≠ checkedFrame ([0x22, nodeAddress f.node, replyCode kind] ++ descriptor)) : readReply? f bytes = none := by
  refine readReply?_eq_none fun content reply read is => ?_
  rw [asks] at read is
  obtain ⟨kind, descriptor, rfl, whole, -⟩ := identifyContent?_eq_some.1 read
  exact other kind descriptor whole is

/-- Settles O56: each end of an identify frame's window goes to the census or to the probe; a census that has asked every
address is judged. -/
theorem censusReply : Obligations.CensusReply := by
  intro s hb f flight asks waits counts reply whole good free
  have outcome : ∀ judge : Flight → FrameOutcome, onWindow hb judge s = identifyOutcome hb (judge f) free := fun judge => by
    rw [onWindow_open _ flight waits, takeOutcome_identify _ counts asks]
  have replied : f.overlap = false → f.secondHoldOff = false → ∀ kind descriptor, whole kind descriptor →
      exec (good kind descriptor) s = .next (finish s (identifyOutcome hb (.good (.identify kind descriptor)) free)) :=
    fun alone once kind descriptor complete => by
      have is : judgeReply f (checkedFrame ([0x22, nodeAddress f.node, replyCode kind] ++ descriptor)) false =
        .good (.identify kind descriptor) := judgeReply_good alone once (readReply?_identify asks complete)
      rw [← is, ← outcome fun f => judgeReply f _ false]
      cases kind <;> rfl
  refine ⟨fun bytes overlap bad => ?disturbed, fun prior down => ⟨?probed, ?missed⟩, fun c census _ serves => ?census⟩
  case disturbed =>
    refine exec_reply_bad flight (bad.imp_right fun bad => bad.imp_right fun bad => bad.imp_right fun other =>
      readReply?_not_identify asks fun kind descriptor complete => ?_)
    cases kind with
    | corner | body | aux => exact other _ descriptor complete
  case probed =>
    intro alone once kind descriptor complete
    rw [replied alone once kind descriptor complete, identifyOutcome_linkDown (s := free) down]
    rfl
  case missed =>
    intro overlap i listed
    obtain ⟨judge, is, judged⟩ := judge_bad listed s
    rw [is, outcome, identifyOutcome_linkDown (s := free) down, (judged f).1]
    rfl
  case census =>
    intro fault keeps' moves
    have taken := identifyOutcome_census (s := free) (serves.imp_right fun ⟨prior, _, state, _⟩ => ⟨prior, state⟩) census
    have moved : ∀ (i : Instr) (answers : Vector (Option Answer) 7) (attempt : Nat),
        exec i s = .next (finish s (censusOn hb ⟨answers, c.node, attempt⟩ free)) → moves i answers := by
      intro i answers attempt is
      unfold moves
      intro answered listed
      have reached : ∀ t, censusOn hb ⟨answers, c.node, attempt⟩ free = t → exec i s = .next (finish s t) :=
        fun t same => same ▸ is
      refine ⟨fun next => reached _ (censusOn_next (c := ⟨answers, c.node, attempt⟩) next), fun last =>
        ⟨fun silent => reached _ (censusOn_fault last (Census.judge_noBody silent)),
          fun body missing => reached _ (censusOn_fault last (Census.judge_cornerMissing body missing)),
          fun b body kind corners => ⟨fun unlisted => reached _ (censusOn_fault last
            (Census.judge_unlisted body kind corners unlisted)), fun d described lists => ?_⟩⟩⟩
      have passes := Census.judge_listed (c := ⟨answers, c.node, attempt⟩) body kind corners described lists
      intro filled
      exact ⟨fun state => reached _ (censusOn_identified last passes state),
        fun prior old state holds => ⟨fun other => reached _ (censusOn_other last passes state holds other),
          fun same => reached _ (censusOn_same last passes state holds same)⟩⟩
    refine ⟨fun alone once kind descriptor complete => ?_, fun overlap i listed => ?_⟩
    · refine moved _ (c.enter ⟨kind, s.time, descriptor⟩).answers c.attempt ?_
      rw [replied alone once kind descriptor complete, taken]
      rfl
    · obtain ⟨judge, is, judged⟩ := judge_bad listed s
      obtain ⟨bad, clash⟩ := judged f
      rw [outcome, taken, censusOutcome_bad bad, clash] at is
      refine ⟨fun overlaps => ?_, fun alone once few => ?_, fun alone once third => ?_⟩
      · rw [if_pos (by rw [Bool.or_eq_true]; exact overlaps)] at is
        exact is
      · rw [alone, once, if_neg (by decide), if_pos few] at is
        exact is
      · rw [alone, once, if_neg (by decide), if_neg (by omega)] at is
        exact moved i c.answers c.attempt is

end Sys2Proof.Machine
end
